-- ==== Sys2Proof/Word.lean ====
section
/-! DEFINITION. The widths of the dali_mon FDE (spec R8, R9, R60): a byte, the 24-bit value port and the 34-bit
operation word. Bit 0 of every value is its least significant bit; every value is unsigned. -/

namespace Sys2Proof

/-- An 8-bit value: an address byte, an instance byte, an opcode byte, a bit length, a context (R8, R46). -/
abbrev Byte := BitVec 8

/-- The value port of a FRAME operation, 24 bits wide (R8: `VALUE_W = 24`). -/
abbrev Value := BitVec 24

/-- The operation word `OPW`: `op` in bits 33:32, `len` in bits 31:24, `v` in bits 23:0 (R60). -/
abbrev OpWord := BitVec 34

end Sys2Proof
end

