-- ==== Sys2Proof/Config.lean ====
section
/-! DEFINITION. The configuration value `CFG` of the block (R7): the three label widths and the ROM image. Only the
types stand here; the reads and the constraints are in Machine/Image.lean, the spec's default image is in
Machine/DefaultImage.lean. The image is the block's only memory (R40, R41, R43): three read-only tables of 256
addresses each. -/

namespace Sys2Proof

/-- Payload shape of a `C1` entry (R22, R30): how TEXT renders the opcode byte. Code 3 does not exist (R22, U20). -/
inductive Shape where
  | plain      -- code 0, the name alone
  | hexDec     -- code 1, the name and the byte in hex and decimal
  | hexDecBin  -- code 2, the name and the byte in hex, decimal and binary
  deriving DecidableEq, Repr

/-- What a table address answers on a hit (R30, R41). A `GEAR` or `CTRL` entry is a name; it is carried here with the
shape `plain`, which no rule reads for those two tables. -/
structure RomEntry where
  name  : String
  shape : Shape
  deriving DecidableEq, Repr

/-- The three address spaces (R40). -/
inductive Space where
  | gear
  | ctrl
  | c1
  deriving DecidableEq, Repr

/-- A table as a list of (address, entry) pairs in one canonical form, addresses strictly rising and below 256
(`Memory.wf`). An address that is not listed is unmapped: it answers `none`, a miss (R30, R41). -/
abbrev Table (α : Type) := List (Nat × α)

/-- The ROM image `CFG.IMG` (R7, R30): `GEAR` and `CTRL` from a byte to a name, `C1` from a byte to a name and a
shape. -/
structure Image where
  gear : Table String
  ctrl : Table String
  c1   : Table RomEntry
  deriving DecidableEq, Repr

/-- The block's whole memory is the ROM image (R40: all three address spaces are tables of the image). -/
abbrev Memory := Image

/-- `CFG` (R7). Fixed for the life of the block (R285, R297); no step changes it. -/
structure Config where
  labelW24 : Nat
  labelW16 : Nat
  labelW8  : Nat
  img      : Image
  deriving DecidableEq, Repr

end Sys2Proof
end

