-- ==== Sys2Proof/Machine/DefaultImage.lean ====
section
/-! DEFINITION. `DEFAULT_IMAGE` and the default configuration (R7, R252 to R254), row for row as
spec/default_rom_image.json has them. The spec marks every name and every opcode assignment here as general knowledge,
not the source's (G1 to G3), and the image as a parameter the model quantifies over (D6): `State.cfg` holds whichever
image the block is built with; `State.reset` holds this one (DESIGN CHOICE, log entry 2). -/

namespace Sys2Proof

/-- `DEFAULT_IMAGE.GEAR`, 65 entries (R252). Part 1. -/
def defaultGear0 : Table String :=
  [ (0x00, "OFF")
  , (0x01, "UP")
  , (0x02, "DOWN")
  , (0x03, "STEP UP")
  , (0x04, "STEP DOWN")
  , (0x05, "RECALL MAX LEVEL")
  , (0x06, "RECALL MIN LEVEL")
  , (0x07, "STEP DOWN AND OFF")
  , (0x08, "ON AND STEP UP")
  , (0x09, "ENABLE DAPC SEQUENCE")
  , (0x0A, "GO TO LAST ACTIVE LEVEL")
  , (0x10, "GO TO SCENE")
  , (0x20, "RESET")
  , (0x21, "STORE ACTUAL LEVEL IN DTR0")
  , (0x22, "SAVE PERSISTENT VARIABLES")
  , (0x23, "SET OPERATING MODE (DTR0)")
  , (0x24, "RESET MEMORY BANK (DTR0)")
  , (0x25, "IDENTIFY DEVICE")
  , (0x2A, "SET MAX LEVEL (DTR0)")
  , (0x2B, "SET MIN LEVEL (DTR0)")
  , (0x2C, "SET SYSTEM FAILURE LEVEL (DTR0)")
  , (0x2D, "SET POWER ON LEVEL (DTR0)")
  , (0x2E, "SET FADE TIME (DTR0)")
  , (0x2F, "SET FADE RATE (DTR0)")
  , (0x30, "SET EXTENDED FADE TIME (DTR0)")
  , (0x40, "SET SCENE (DTR0)")
  , (0x50, "REMOVE FROM SCENE")
  , (0x60, "ADD TO GROUP")
  , (0x70, "REMOVE FROM GROUP")
  , (0x80, "SET SHORT ADDRESS (DTR0)")
  , (0x81, "ENABLE WRITE MEMORY")
  , (0x90, "QUERY STATUS")
  , (0x91, "QUERY CONTROL GEAR PRESENT")
  , (0x92, "QUERY LAMP FAILURE")
  , (0x93, "QUERY LAMP POWER ON") ]

/-- `DEFAULT_IMAGE.GEAR`, 65 entries (R252). Part 2. -/
def defaultGear1 : Table String :=
  [ (0x94, "QUERY LIMIT ERROR")
  , (0x95, "QUERY RESET STATE")
  , (0x96, "QUERY MISSING SHORT ADDRESS")
  , (0x97, "QUERY VERSION NUMBER")
  , (0x98, "QUERY CONTENT DTR0")
  , (0x99, "QUERY DEVICE TYPE")
  , (0x9A, "QUERY PHYSICAL MINIMUM")
  , (0x9B, "QUERY POWER FAILURE")
  , (0x9C, "QUERY CONTENT DTR1")
  , (0x9D, "QUERY CONTENT DTR2")
  , (0x9E, "QUERY OPERATING MODE")
  , (0x9F, "QUERY LIGHT SOURCE TYPE")
  , (0xA0, "QUERY ACTUAL LEVEL")
  , (0xA1, "QUERY MAX LEVEL")
  , (0xA2, "QUERY MIN LEVEL")
  , (0xA3, "QUERY POWER ON LEVEL")
  , (0xA4, "QUERY SYSTEM FAILURE LEVEL")
  , (0xA5, "QUERY FADE TIME/FADE RATE")
  , (0xA6, "QUERY MANUFACTURER SPECIFIC MODE")
  , (0xA7, "QUERY NEXT DEVICE TYPE")
  , (0xA8, "QUERY EXTENDED FADE TIME")
  , (0xAA, "QUERY CONTROL GEAR FAILURE")
  , (0xB0, "QUERY SCENE LEVEL")
  , (0xC0, "QUERY GROUPS 0-7")
  , (0xC1, "QUERY GROUPS 8-15")
  , (0xC2, "QUERY RANDOM ADDRESS (H)")
  , (0xC3, "QUERY RANDOM ADDRESS (M)")
  , (0xC4, "QUERY RANDOM ADDRESS (L)")
  , (0xC5, "READ MEMORY LOCATION (DTR1,DTR0)")
  , (0xFF, "QUERY EXTENDED VERSION NUMBER") ]

/-- `DEFAULT_IMAGE.GEAR`, 65 entries (R252). -/
def defaultGear : Table String :=
  defaultGear0 ++ defaultGear1

/-- `DEFAULT_IMAGE.CTRL`, 69 entries (R253). Part 1. -/
def defaultCtrl0 : Table String :=
  [ (0x00, "IDENTIFY DEVICE")
  , (0x01, "RESET POWER CYCLE SEEN")
  , (0x10, "RESET")
  , (0x11, "RESET MEMORY BANK (DTR0)")
  , (0x14, "SET SHORT ADDRESS (DTR0)")
  , (0x15, "ENABLE WRITE MEMORY")
  , (0x16, "ENABLE APPLICATION CONTROLLER")
  , (0x17, "DISABLE APPLICATION CONTROLLER")
  , (0x18, "SET OPERATING MODE (DTR0)")
  , (0x19, "ADD TO DEVICE GROUPS 0-15 (DTR2:DTR1)")
  , (0x1A, "ADD TO DEVICE GROUPS 16-31 (DTR2:DTR1)")
  , (0x1B, "REMOVE FROM DEVICE GROUPS 0-15 (DTR2:DTR1)")
  , (0x1C, "REMOVE FROM DEVICE GROUPS 16-31 (DTR2:DTR1)")
  , (0x1D, "START QUIESCENT MODE")
  , (0x1E, "STOP QUIESCENT MODE")
  , (0x1F, "ENABLE POWER CYCLE NOTIFICATION")
  , (0x20, "DISABLE POWER CYCLE NOTIFICATION")
  , (0x21, "SAVE PERSISTENT VARIABLES")
  , (0x30, "QUERY DEVICE STATUS")
  , (0x31, "QUERY APPLICATION CONTROLLER ERROR")
  , (0x32, "QUERY INPUT DEVICE ERROR")
  , (0x33, "QUERY MISSING SHORT ADDRESS")
  , (0x34, "QUERY VERSION NUMBER")
  , (0x35, "QUERY NUMBER OF INSTANCES")
  , (0x36, "QUERY CONTENT DTR0")
  , (0x37, "QUERY CONTENT DTR1")
  , (0x38, "QUERY CONTENT DTR2")
  , (0x39, "QUERY RANDOM ADDRESS (H)")
  , (0x3A, "QUERY RANDOM ADDRESS (M)")
  , (0x3B, "QUERY RANDOM ADDRESS (L)")
  , (0x3C, "READ MEMORY LOCATION (DTR1,DTR0)")
  , (0x3D, "QUERY APPLICATION CONTROL ENABLED")
  , (0x3E, "QUERY OPERATING MODE")
  , (0x3F, "QUERY MANUFACTURER SPECIFIC MODE")
  , (0x40, "QUERY QUIESCENT MODE") ]

/-- `DEFAULT_IMAGE.CTRL`, 69 entries (R253). Part 2. -/
def defaultCtrl1 : Table String :=
  [ (0x41, "QUERY DEVICE GROUPS 0-7")
  , (0x42, "QUERY DEVICE GROUPS 8-15")
  , (0x43, "QUERY DEVICE GROUPS 16-23")
  , (0x44, "QUERY DEVICE GROUPS 24-31")
  , (0x45, "QUERY POWER CYCLE NOTIFICATION")
  , (0x46, "QUERY DEVICE CAPABILITIES")
  , (0x47, "QUERY EXTENDED VERSION NUMBER (DTR0)")
  , (0x48, "QUERY RESET STATE")
  , (0x49, "QUERY APPLICATION CONTROLLER ALWAYS ACTIVE")
  , (0x61, "SET EVENT PRIORITY (DTR0)")
  , (0x62, "ENABLE INSTANCE")
  , (0x63, "DISABLE INSTANCE")
  , (0x64, "SET PRIMARY INSTANCE GROUP (DTR0)")
  , (0x65, "SET INSTANCE GROUP 1 (DTR0)")
  , (0x66, "SET INSTANCE GROUP 2 (DTR0)")
  , (0x67, "SET EVENT SCHEME (DTR0)")
  , (0x68, "SET EVENT FILTER (DTR2,DTR1,DTR0)")
  , (0x80, "QUERY INSTANCE TYPE")
  , (0x81, "QUERY RESOLUTION")
  , (0x82, "QUERY INSTANCE ERROR")
  , (0x83, "QUERY INSTANCE STATUS")
  , (0x84, "QUERY EVENT PRIORITY")
  , (0x86, "QUERY INSTANCE ENABLED")
  , (0x88, "QUERY PRIMARY INSTANCE GROUP")
  , (0x89, "QUERY INSTANCE GROUP 1")
  , (0x8A, "QUERY INSTANCE GROUP 2")
  , (0x8B, "QUERY EVENT SCHEME")
  , (0x8C, "QUERY INPUT VALUE")
  , (0x8D, "QUERY INPUT VALUE LATCH")
  , (0x8E, "QUERY FEATURE TYPE")
  , (0x8F, "QUERY NEXT FEATURE TYPE")
  , (0x90, "QUERY EVENT FILTER 0-7")
  , (0x91, "QUERY EVENT FILTER 8-15")
  , (0x92, "QUERY EVENT FILTER 16-23") ]

/-- `DEFAULT_IMAGE.CTRL`, 69 entries (R253). -/
def defaultCtrl : Table String :=
  defaultCtrl0 ++ defaultCtrl1

/-- `DEFAULT_IMAGE.C1`, 16 entries (R254). -/
def defaultC1 : Table RomEntry :=
  [ (0x00, ⟨"TERMINATE", .plain⟩)
  , (0x02, ⟨"RANDOMISE", .plain⟩)
  , (0x03, ⟨"COMPARE", .plain⟩)
  , (0x04, ⟨"WITHDRAW", .plain⟩)
  , (0x05, ⟨"SEARCHADDRH", .hexDec⟩)
  , (0x06, ⟨"SEARCHADDRM", .hexDec⟩)
  , (0x07, ⟨"SEARCHADDRL", .hexDec⟩)
  , (0x08, ⟨"PROGRAM SHORT ADDRESS", .hexDec⟩)
  , (0x09, ⟨"VERIFY SHORT ADDRESS", .hexDec⟩)
  , (0x0A, ⟨"QUERY SHORT ADDRESS", .plain⟩)
  , (0x20, ⟨"WRITE MEMORY LOCATION", .hexDec⟩)
  , (0x21, ⟨"WRITE MEMORY LOCATION - NO REPLY", .hexDec⟩)
  , (0x30, ⟨"DTR0", .hexDecBin⟩)
  , (0x31, ⟨"DTR1", .hexDecBin⟩)
  , (0x32, ⟨"DTR2", .hexDecBin⟩)
  , (0x33, ⟨"SEND TESTFRAME", .hexDec⟩) ]

/-- `DEFAULT_IMAGE` (R7). -/
def defaultImage : Image :=
  { gear := defaultGear, ctrl := defaultCtrl, c1 := defaultC1 }

/-- The default configuration (R7): label widths 10, 14 and 14, and the default image. -/
def defaultConfig : Config :=
  { labelW24 := 10, labelW16 := 14, labelW8 := 14, img := defaultImage }

end Sys2Proof
end

