-- ==== Sys2Proof/Machine/State.lean ====
section
/-! DEFINITION. The state of the block (R20 to R28): `CTX` and the result bank `RES`, 81 bits, and beside them the two
parameters of the step relation `STEP(state, OPW, CFG)` (R29, R90) that the host's form of a step has no argument for:
the configuration and the sequence of operations the host presents. The enumerations are exact (U20): the codes no rule
produces cannot be represented (log entry 7). Their numeric codes are in Machine/Ports.lean. -/

namespace Sys2Proof.Machine

/-- `AddrKind`, the address classification (R23), in the order of its codes 0 to 14. -/
inductive AddrKind where
  | none
  | short
  | group
  | bcUnaddr
  | bc
  | special
  | reserved
  | unmatched
  | evDevice
  | evDeviceInstance
  | evDeviceGroup
  | evInstance
  | evInstanceGroup
  | evReserved
  | powerCycle
  deriving DecidableEq, Repr

/-- `CmdKind`, the command classification (R24), in the order of its codes 0 to 19. -/
inductive CmdKind where
  | none
  | data8
  | gearNamed
  | gearCounted
  | gearUndef
  | ctrlNamed
  | ctrlUndef
  | spcInitialise
  | spcC1Named
  | spcC1Undef
  | spcDirectWrite
  | spcDtr1Dtr0
  | spcDtr2Dtr1
  | spcUnknown
  | spc16Unknown
  | reserved
  | unmatched
  | event
  | eventReserved
  | powerCycle
  deriving DecidableEq, Repr

/-- `ERR` (R22, R266): codes 0 to 2. -/
inductive ErrCode where
  | none   -- the last FRAME was accepted, or no FRAME since reset
  | len    -- UnsupportedFrameLength (R260)
  | range  -- ValueOutOfRange (R261)
  deriving DecidableEq, Repr

/-- `dc.lc`, the length class (R22): `bit_length >> 3`, and 0 for the cleared record. -/
inductive LenClass where
  | none
  | w8
  | w16
  | w24
  deriving DecidableEq, Repr

/-- `dc.isub`, the INITIALISE sub-case (R22, R171): codes 0 to 3. -/
inductive InitSub where
  | unaddressed
  | all
  | one
  | noneResponds
  deriving DecidableEq, Repr

/-- `RES.dc`, the decoded-command record (R22). -/
structure Decoded where
  lc          : LenClass
  akind       : AddrKind
  af1         : BitVec 6
  af1v        : Bool
  af2         : BitVec 6
  af2v        : Bool
  ckind       : CmdKind
  tmpl        : Byte
  shape       : Shape
  isub        : InitSub
  ab          : Byte
  ib          : Byte
  op          : Byte
  nextContext : Byte
  deriving DecidableEq, Repr

/-- The cleared record, every field 0 (R35). -/
def Decoded.cleared : Decoded :=
  { lc := .none, akind := .none, af1 := 0#6, af1v := false, af2 := 0#6, af2v := false, ckind := .none,
    tmpl := 0#8, shape := .plain, isub := .unaddressed, ab := 0#8, ib := 0#8, op := 0#8, nextContext := 0#8 }

/-- The result bank `RES` (R22): `RES_NEW`, `RES_VALID`, `ERR` and the record `dc`. -/
structure Res where
  new   : Bool
  valid : Bool
  err   : ErrCode
  dc    : Decoded
  deriving DecidableEq, Repr

/-- What the host drives on the block's input ports in one step: the reset input `rst` and the operation word
(R60, R101, R280). -/
structure HostInput where
  rst : Bool
  opw : OpWord
  deriving DecidableEq, Repr

/-- The state. `ctx` and `res` are the architectural state, all of it (R28). `cfg` is the configuration, which no step
changes (R29, R285; DESIGN CHOICE, log entry 1). `input` is the sequence of operations the host presents, the next one first (R29,
R50; DESIGN CHOICE, log entry 3). -/
structure State where
  ctx   : Byte
  res   : Res
  cfg   : Config
  input : List HostInput
  deriving DecidableEq, Repr

/-- Why a step stops with a fault: never. "The step relation is a total function" (spec 93, after U25), the block "does
not stop" (R270); its two exceptions are rejections with a next state (R264). The type has no constructor, so no step
of the model can fault; that is safe (DEDUCED, log entry 9). -/
inductive Fault where
  deriving DecidableEq, Repr

/-- Why the model refuses. -/
inductive Refusal where
  /-- An instruction without a meaning, by its mnemonic; raised by an arm of `exec` only, and no arm does. Safe. -/
  | notModelled (mnemonic : String)
  /-- An image that breaks R31, R32 or R250 "is refused: it is not a configuration of this block" (R31, U12). Raised by
  `State.powerUp`, never by a step. Safe. -/
  | notAConfiguration
  deriving DecidableEq, Repr

/-- The result bank after reset (R35). -/
def Res.cleared : Res :=
  { new := false, valid := false, err := .none, dc := Decoded.cleared }

/-- The machine right after reset (R35, R280): every one of the 81 bits 0; the configuration at its defaults (R7; DESIGN
CHOICE, log entry 2); no operation presented yet (R283). -/
def State.reset : State :=
  { ctx := 0#8, res := Res.cleared, cfg := defaultConfig, input := [] }

end Sys2Proof.Machine
end

