-- ==== Sys2Proof/Machine/Flags.lean ====
section
/-! DEFINITION. The flags of the result bank: `RES_NEW`, `RES_VALID` and `ERR`, as each kind of operation writes them
(the table of R36; R265 for the lifetime of `ERR`). -/

namespace Sys2Proof.Machine

/-- NOP and LOAD_CTX: `RES_NEW <- 0`, the rest of `RES` kept (R91, R94). -/
def Res.quiet (r : Res) : Res := { r with new := false }

/-- An accepted FRAME: `RES_NEW = 1`, `RES_VALID = 1`, `ERR = 0`, the record overwritten whole (R92). -/
def Res.accepted (dc : Decoded) : Res := { new := true, valid := true, err := .none, dc := dc }

/-- A rejected FRAME: `RES_NEW = 1`, `RES_VALID = 0`, `ERR` the code, the record cleared (R264). -/
def Res.rejected (e : ErrCode) : Res := { new := true, valid := false, err := e, dc := Decoded.cleared }

end Sys2Proof.Machine
end

