-- ==== Sys2Proof/Machine/Image.lean ====
section
/-! DEFINITION. The three read-only tables as memory (R40 to R44): the one read, the canonical form, and the constraints
an image must meet (R30 to R33, R250). There is no write: "No operation writes any memory" (R43). Log entries 10
and 15 say how the spec's tables became this data. -/

namespace Sys2Proof

/-- The entry a table lists at an address; an unlisted address answers `none` (R30, R41). -/
def tableRead {α : Type} : Table α → Nat → Option α
  | [], _ => none
  | (k, e) :: t, a => if k = a then some e else tableRead t a

/-- `MemRead(space, a)` (R41): total, without side effect; `none` is a miss. -/
def memRead (m : Memory) (space : Space) (a : Byte) : Option RomEntry :=
  match space with
  | .gear => (tableRead m.gear a.toNat).map (fun n => ⟨n, .plain⟩)
  | .ctrl => (tableRead m.ctrl a.toNat).map (fun n => ⟨n, .plain⟩)
  | .c1 => tableRead m.c1 a.toNat

/-- Addresses strictly rising from `lo`, all of them addresses of a 256-entry table (R30, R40). -/
def risingFrom {α : Type} (lo : Nat) : Table α → Bool
  | [] => true
  | (k, _) :: t => decide (lo ≤ k) && decide (k < 256) && risingFrom (k + 1) t

/-- The canonical form of memory: each table lists rising addresses below 256, and no entry is listed that reads as an
unlisted address does (an entry is never `none`, by its type). -/
def Memory.wf (m : Memory) : Bool :=
  risingFrom 0 m.gear && risingFrom 0 m.ctrl && risingFrom 0 m.c1

/-- A printable 7-bit ASCII character, space included (R250). -/
def isPrintable (c : Char) : Bool := decide (0x20 ≤ c.toNat) && decide (c.toNat ≤ 0x7E)

/-- A name an image may hold (R250): non-empty, printable ASCII, not starting with `-`, not `RESERVED`, no leading or
trailing space. -/
def isName (n : String) : Bool :=
  let cs := n.toList
  !cs.isEmpty && cs.all isPrintable && cs.head? != some '-' && cs.head? != some ' ' &&
    cs.getLast? != some ' ' && cs != "RESERVED".toList

/-- The six base opcodes of the counted families (R31, R153). -/
def familyBases : List Byte := [0x10#8, 0x40#8, 0x50#8, 0x60#8, 0x70#8, 0xB0#8]

/-- An image that is a configuration of this block: canonical tables, legal names (R250), the six family bases mapped
(R31), nothing in `CTRL` above 0x94 (R32). R33 asks nothing of `C1(0x01)`: it is never read. -/
def isConfiguration (m : Memory) : Bool :=
  Memory.wf m &&
    m.gear.all (fun e => isName e.2) && m.ctrl.all (fun e => isName e.2) && m.c1.all (fun e => isName e.2.name) &&
    familyBases.all (fun b => (memRead m .gear b).isSome) &&
    m.ctrl.all (fun e => decide (e.1 ≤ 0x94))

end Sys2Proof
end

