-- ==== Sys2Proof/Syntax.lean ====
section
/-! DEFINITION. The syntax: one constructor of `Instr` for each of the 50 rows of spec/opcode_table.json, in the
table's order. The operands of a row are the bits of the operation word that the row's mask leaves free and that the
row's rule reads or echoes; bits that R62 says are ignored are no operands.

The table has two stages (R81). A row of stage `top` is a whole operation word. A row of stage `G16` or `G24` is tried
"on the same word" after a top row whose `next` names the stage, so it too stands for a whole operation word: it
carries the address part of that word as an operand (`AddrForm`). The two views of one addressed frame (its top row,
its stage row) are `decode` and `decodeStage` of Sys2Proof/Decode.lean; both have the same effect (DESIGN CHOICE, log
entry 6). -/

namespace Sys2Proof

/-- The four addressed forms of an address byte, 98 values in all (R74, R112 to R115, R166 (c)). `x` is bit 5 of a
group byte: not part of the group number, but echoed (R80, R113). -/
inductive AddrForm where
  | short (a : BitVec 6)                  -- 0aaaaaa1
  | group (x : BitVec 1) (g : BitVec 4)   -- 10xgggg1
  | bcUnaddr                              -- 0xFD
  | bc                                    -- 0xFF
  deriving DecidableEq, Repr

inductive Instr where
  /-- `NOP` (R91) -/
  | nop
  /-- `LOAD_CTX c` (R94) -/
  | loadCtx (c : Byte)
  /-- `SRESET` (R95) -/
  | sreset
  /-- `F8.DATA` (R150): an 8-bit backward frame -/
  | f8Data (data : Byte)
  /-- `F8.ERR_RANGE` (R261): `len = 8` and `v >= 2^8` -/
  | f8ErrRange (v : Value)
  /-- `A16.SHORT` (R112), then stage `G16` -/
  | a16Short (a : BitVec 6) (op : Byte)
  /-- `A16.GROUP` (R113), then stage `G16`; `x` is bit 5 of the address byte -/
  | a16Group (x : BitVec 1) (g : BitVec 4) (op : Byte)
  /-- `A16.BC_UNADDR` (R114), then stage `G16` -/
  | a16BcUnaddr (op : Byte)
  /-- `A16.BC` (R115), then stage `G16` -/
  | a16Bc (op : Byte)
  /-- `A16.UNMATCHED.C0` (R164): address byte 0xC0 -/
  | a16UnmatchedC0 (op : Byte)
  /-- `A16.SPECIAL` (R163): address byte `110nnnnn`, not 0xC0 -/
  | a16Special (n : BitVec 5) (op : Byte)
  /-- `A16.UNMATCHED.E0` (R164): address byte 0xE0 -/
  | a16UnmatchedE0 (op : Byte)
  /-- `A16.RESERVED.E` (R162): address byte `1110nnnn`, not 0xE0 -/
  | a16ReservedE (n : BitVec 4) (op : Byte)
  /-- `A16.UNMATCHED.F0` (R164): address byte 0xF0 -/
  | a16UnmatchedF0 (op : Byte)
  /-- `A16.RESERVED.F1` (R162): address byte `11110nnn`, not 0xF0 -/
  | a16ReservedF1 (n : BitVec 3) (op : Byte)
  /-- `A16.RESERVED.F8` (R162): address byte `111110nn` -/
  | a16ReservedF8 (n : BitVec 2) (op : Byte)
  /-- `A16.UNMATCHED` (R164): every address byte no other 16-bit row takes -/
  | a16Unmatched (ab : Byte) (op : Byte)
  /-- `F16.ERR_RANGE` (R261): `len = 16` and `v >= 2^16` -/
  | f16ErrRange (v : Value)
  /-- `E24.POWER_CYCLE` (R132) -/
  | e24PowerCycle (gv : BitVec 1) (g : BitVec 5) (av : BitVec 1) (a : BitVec 6)
  /-- `E24.RESERVED` (R139) -/
  | e24Reserved (f1 f2 : BitVec 5) (ev : BitVec 10)
  /-- `E24.INSTANCE_GROUP` (R138) -/
  | e24InstanceGroup (f1 f2 : BitVec 5) (ev : BitVec 10)
  /-- `E24.INSTANCE` (R137) -/
  | e24Instance (f1 f2 : BitVec 5) (ev : BitVec 10)
  /-- `E24.DEVICE_GROUP` (R136) -/
  | e24DeviceGroup (f1 f2 : BitVec 5) (ev : BitVec 10)
  /-- `E24.DEVICE_INSTANCE` (R135); `s22` is read by nothing but the echo (R80) -/
  | e24DeviceInstance (s22 : BitVec 1) (f1 f2 : BitVec 5) (ev : BitVec 10)
  /-- `E24.DEVICE` (R134); `s22` is read by nothing but the echo (R80) -/
  | e24Device (s22 : BitVec 1) (f1 f2 : BitVec 5) (ev : BitVec 10)
  /-- `A24.SHORT` (R112), then stage `G24` -/
  | a24Short (a : BitVec 6) (ib op : Byte)
  /-- `A24.GROUP` (R113), then stage `G24`; `x` is bit 5 of the address byte -/
  | a24Group (x : BitVec 1) (g : BitVec 4) (ib op : Byte)
  /-- `A24.BC_UNADDR` (R114), then stage `G24` -/
  | a24BcUnaddr (ib op : Byte)
  /-- `A24.BC` (R115), then stage `G24` -/
  | a24Bc (ib op : Byte)
  /-- `S24.INITIALISE.UNADDRESSED` (R172) -/
  | s24InitialiseUnaddressed
  /-- `S24.INITIALISE.ALL` (R173) -/
  | s24InitialiseAll
  /-- `S24.INITIALISE.ONE` (R174): opcode byte `0kkkkkk1` -/
  | s24InitialiseOne (k : BitVec 6)
  /-- `S24.INITIALISE.NONE` (R175) -/
  | s24InitialiseNone (op : Byte)
  /-- `S24.C1.LUT` (R176 on a hit, R177 on a miss) -/
  | s24C1Lut (ib op : Byte)
  /-- `S24.DIRECT_WRITE` (R178) -/
  | s24DirectWrite (ib op : Byte)
  /-- `S24.DTR1_DTR0` (R179) -/
  | s24Dtr1Dtr0 (ib op : Byte)
  /-- `S24.DTR2_DTR1` (R180) -/
  | s24Dtr2Dtr1 (ib op : Byte)
  /-- `S24.UNKNOWN` (R181): address byte `110nnnn1`, not 0xC1, 0xC5, 0xC7, 0xC9 -/
  | s24Unknown (n : BitVec 4) (ib op : Byte)
  /-- `A24.RESERVED.E` (R204): address byte `1110nnn1` -/
  | a24ReservedE (n : BitVec 3) (ib op : Byte)
  /-- `A24.RESERVED.F1` (R204): address byte `11110nn1` -/
  | a24ReservedF1 (n : BitVec 2) (ib op : Byte)
  /-- `A24.RESERVED.F9` (R204): address byte `111110n1` -/
  | a24ReservedF9 (n : BitVec 1) (ib op : Byte)
  /-- `F.ERR_LEN` (R260): `len` not 8, 16 or 24; the value is not examined -/
  | fErrLen (len : Byte)
  /-- `G16.GOTO_SCENE` (R154), of a frame addressed by `form` -/
  | g16GotoScene (form : AddrForm) (k : BitVec 4)
  /-- `G16.SET_SCENE` (R155) -/
  | g16SetScene (form : AddrForm) (k : BitVec 4)
  /-- `G16.REMOVE_SCENE` (R156) -/
  | g16RemoveScene (form : AddrForm) (k : BitVec 4)
  /-- `G16.ADD_GROUP` (R157) -/
  | g16AddGroup (form : AddrForm) (k : BitVec 4)
  /-- `G16.REMOVE_GROUP` (R158) -/
  | g16RemoveGroup (form : AddrForm) (k : BitVec 4)
  /-- `G16.QUERY_SCENE_LEVEL` (R159) -/
  | g16QuerySceneLevel (form : AddrForm) (k : BitVec 4)
  /-- `G16.LUT` (R160 on a hit, R161 on a miss) -/
  | g16Lut (form : AddrForm) (op : Byte)
  /-- `G24.LUT` (R201 on a hit, R202 on a miss) -/
  | g24Lut (form : AddrForm) (ib op : Byte)
  deriving DecidableEq, Repr

end Sys2Proof
end

