-- ==== Sys2Proof/WellFormed.lean ====
section
/-! DEFINITION. Which instructions are ones a word spells. The rows of the opcode table are tried in priority order
(R81), so a row's mask alone may also match words an earlier row takes; those operand values are ill formed for the
later row. Every other constructor is well formed with all its operands (log entry 14). -/

namespace Sys2Proof

/-- The six base opcodes of the counted families (R153). -/
def isFamily (op : Byte) : Bool :=
  let b := op &&& 0xF0#8
  b == 0x10#8 || b == 0x40#8 || b == 0x50#8 || b == 0x60#8 || b == 0x70#8 || b == 0xB0#8

/-- The address bytes no other 16-bit row takes (R118, less 0xC0, 0xE0, 0xF0, which have rows of their own): even in
[0x00, 0xBE], and 0xFC, 0xFE. -/
def isUnmatchedRest (ab : Byte) : Bool :=
  (ab &&& 0x01#8 == 0x00#8 && ab.toNat ≤ 0xBE) || ab == 0xFC#8 || ab == 0xFE#8

/-- Well-formedness, constructor by constructor. -/
def Instr.wellFormed : Instr → Bool
  | .nop | .loadCtx _ | .sreset | .f8Data _ => true
  | .f8ErrRange v => 2 ^ 8 ≤ v.toNat
  | .a16Short _ _ | .a16Group _ _ _ | .a16BcUnaddr _ | .a16Bc _ => true
  | .a16UnmatchedC0 _ => true
  | .a16Special n _ => n != 0#5
  | .a16UnmatchedE0 _ => true
  | .a16ReservedE n _ => n != 0#4
  | .a16UnmatchedF0 _ => true
  | .a16ReservedF1 n _ => n != 0#3
  | .a16ReservedF8 _ _ => true
  | .a16Unmatched ab _ => isUnmatchedRest ab
  | .f16ErrRange v => 2 ^ 16 ≤ v.toNat
  | .e24PowerCycle _ _ _ _ => true
  | .e24Reserved f1 f2 _ => !(f1 == 31#5 && f2.extractLsb' 3 2 == 3#2)
  | .e24InstanceGroup _ _ _ | .e24Instance _ _ _ | .e24DeviceGroup _ _ _ => true
  | .e24DeviceInstance _ _ _ _ | .e24Device _ _ _ _ => true
  | .a24Short _ _ _ | .a24Group _ _ _ _ | .a24BcUnaddr _ _ | .a24Bc _ _ => true
  | .s24InitialiseUnaddressed | .s24InitialiseAll | .s24InitialiseOne _ => true
  | .s24InitialiseNone op => op != 0xFF#8 && op != 0x00#8 && op &&& 0x81#8 != 0x01#8
  | .s24C1Lut ib _ => ib != 0x01#8
  | .s24DirectWrite _ _ | .s24Dtr1Dtr0 _ _ | .s24Dtr2Dtr1 _ _ => true
  | .s24Unknown n _ _ => n != 0#4 && n != 2#4 && n != 3#4 && n != 4#4
  | .a24ReservedE _ _ _ | .a24ReservedF1 _ _ _ | .a24ReservedF9 _ _ _ => true
  | .fErrLen len => len != 8#8 && len != 16#8 && len != 24#8
  | .g16GotoScene _ _ | .g16SetScene _ _ | .g16RemoveScene _ _ => true
  | .g16AddGroup _ _ | .g16RemoveGroup _ _ | .g16QuerySceneLevel _ _ => true
  | .g16Lut _ op => !isFamily op
  | .g24Lut _ _ _ => true

/-- The instructions of the table's stage `top`: what `decode` answers. The others are the rows of the stages `G16` and
`G24`, what `decodeStage` answers. -/
def Instr.isTop : Instr → Bool
  | .g16GotoScene _ _ | .g16SetScene _ _ | .g16RemoveScene _ _ => false
  | .g16AddGroup _ _ | .g16RemoveGroup _ _ | .g16QuerySceneLevel _ _ => false
  | .g16Lut _ _ | .g24Lut _ _ _ => false
  | _ => true

end Sys2Proof
end

