-- ==== Sys2Proof/Decode.lean ====
section
/-! DEFINITION. Decoding an operation word (R60 to R81), and after it the encoder and the opcode table itself.

Decoding is total and refuses nothing: the table's stage `top` covers all 2^34 words (R81), and the two rejections of
a FRAME are rows of the table like any other (`F8.ERR_RANGE`, `F16.ERR_RANGE`, `F.ERR_LEN`). The order of the tests is
the order of R72; inside one width it is the rows' priority order. -/

namespace Sys2Proof

/-! ### Fields of the operation word and of the value (R60, R66, R67, R71) -/

/-- `OPW[33:32]`, the operation selector (R60, R61). -/
def opSel (w : OpWord) : BitVec 2 := w.extractLsb' 32 2

/-- `OPW[31:24]`, the frame's bit length (R60). -/
def opLen (w : OpWord) : Byte := w.extractLsb' 24 8

/-- `OPW[23:0]`, the value (R60). -/
def opValue (w : OpWord) : Value := w.extractLsb' 0 24

/-- `v[23:16]`, the address byte of a 24-bit frame (R46, R67). -/
def byteHi (v : Value) : Byte := v.extractLsb' 16 8

/-- `v[15:8]`, the address byte of a 16-bit frame, the instance byte of a 24-bit frame (R46, R66, R67). -/
def byteMid (v : Value) : Byte := v.extractLsb' 8 8

/-- `v[7:0]`, the opcode or data byte (R46). -/
def byteLo (v : Value) : Byte := v.extractLsb' 0 8

/-! ### Stage `top` -/

/-- The address class of a 16-bit frame (R74, the 16-bit column), rows of priority 6 to 17. -/
def decode16 (ab op : Byte) : Instr :=
  if ab &&& 0x81#8 = 0x01#8 then .a16Short (ab.extractLsb' 1 6) op
  else if ab &&& 0xC1#8 = 0x81#8 then .a16Group (ab.extractLsb' 5 1) (ab.extractLsb' 1 4) op
  else if ab = 0xFD#8 then .a16BcUnaddr op
  else if ab = 0xFF#8 then .a16Bc op
  else if ab = 0xC0#8 then .a16UnmatchedC0 op
  else if ab &&& 0xE0#8 = 0xC0#8 then .a16Special (ab.extractLsb' 0 5) op
  else if ab = 0xE0#8 then .a16UnmatchedE0 op
  else if ab &&& 0xF0#8 = 0xE0#8 then .a16ReservedE (ab.extractLsb' 0 4) op
  else if ab = 0xF0#8 then .a16UnmatchedF0 op
  else if ab &&& 0xF8#8 = 0xF0#8 then .a16ReservedF1 (ab.extractLsb' 0 3) op
  else if ab &&& 0xFC#8 = 0xF8#8 then .a16ReservedF8 (ab.extractLsb' 0 2) op
  else .a16Unmatched ab op

/-- The event class of a 24-bit value with `v[16] = 0` (R73): the power-cycle constant first, then the tree over bits
23, 22 and 15. -/
def decodeEvent (v : Value) : Instr :=
  let f1 := v.extractLsb' 17 5
  let f2 := v.extractLsb' 10 5
  let ev := v.extractLsb' 0 10
  if v.extractLsb' 13 11 = 0x7F7#11 then
    .e24PowerCycle (v.extractLsb' 12 1) (v.extractLsb' 7 5) (v.extractLsb' 6 1) (v.extractLsb' 0 6)
  else if v.extractLsb' 23 1 = 1#1 then
    if v.extractLsb' 22 1 = 1#1 then
      if v.extractLsb' 15 1 = 1#1 then .e24Reserved f1 f2 ev else .e24InstanceGroup f1 f2 ev
    else
      if v.extractLsb' 15 1 = 1#1 then .e24Instance f1 f2 ev else .e24DeviceGroup f1 f2 ev
  else
    if v.extractLsb' 15 1 = 1#1 then .e24DeviceInstance (v.extractLsb' 22 1) f1 f2 ev
    else .e24Device (v.extractLsb' 22 1) f1 f2 ev

/-- The INITIALISE rows (R78, R171): `ab = 0xC1`, `ib = 0x01`. -/
def decodeInitialise (op : Byte) : Instr :=
  if op = 0xFF#8 then .s24InitialiseUnaddressed
  else if op = 0x00#8 then .s24InitialiseAll
  else if op &&& 0x81#8 = 0x01#8 then .s24InitialiseOne (op.extractLsb' 1 6)
  else .s24InitialiseNone op

/-- The class of a 24-bit frame with an odd address byte (R74, R78), rows of priority 26 to 41. -/
def decode24Odd (ab ib op : Byte) : Instr :=
  if ab &&& 0x81#8 = 0x01#8 then .a24Short (ab.extractLsb' 1 6) ib op
  else if ab &&& 0xC1#8 = 0x81#8 then .a24Group (ab.extractLsb' 5 1) (ab.extractLsb' 1 4) ib op
  else if ab = 0xFD#8 then .a24BcUnaddr ib op
  else if ab = 0xFF#8 then .a24Bc ib op
  else if ab = 0xC1#8 then
    if ib = 0x01#8 then decodeInitialise op else .s24C1Lut ib op
  else if ab = 0xC5#8 then .s24DirectWrite ib op
  else if ab = 0xC7#8 then .s24Dtr1Dtr0 ib op
  else if ab = 0xC9#8 then .s24Dtr2Dtr1 ib op
  else if ab &&& 0xE1#8 = 0xC1#8 then .s24Unknown (ab.extractLsb' 1 4) ib op
  else if ab &&& 0xF1#8 = 0xE1#8 then .a24ReservedE (ab.extractLsb' 1 3) ib op
  else if ab &&& 0xF9#8 = 0xF1#8 then .a24ReservedF1 (ab.extractLsb' 1 2) ib op
  else .a24ReservedF9 (ab.extractLsb' 1 1) ib op

/-- A 24-bit frame: bit 16 of the value, bit 0 of the address byte, tells events from commands (R72 step 4, R111). -/
def decode24 (v : Value) : Instr :=
  if v.extractLsb' 16 1 = 0#1 then decodeEvent v
  else decode24Odd (byteHi v) (byteMid v) (byteLo v)

/-- A FRAME operation: the length first, then the range (R63, R64, R72, R263). -/
def decodeFrame (len : Byte) (v : Value) : Instr :=
  if len = 8#8 then
    if v.extractLsb' 8 16 = 0#16 then .f8Data (byteLo v) else .f8ErrRange v
  else if len = 16#8 then
    if byteHi v = 0#8 then decode16 (byteMid v) (byteLo v) else .f16ErrRange v
  else if len = 24#8 then decode24 v
  else .fErrLen len

/-- The row of stage `top` an operation word spells, with its operands (R61, R72, R81). Total: no word is refused. -/
def decode (w : OpWord) : Instr :=
  if opSel w = 0#2 then .nop
  else if opSel w = 1#2 then decodeFrame (opLen w) (opValue w)
  else if opSel w = 2#2 then .loadCtx (w.extractLsb' 0 8)
  else .sreset

/-! ### Stages `G16` and `G24` -/

/-- The address byte an addressed form is spelled by (R66, R112 to R115). -/
def AddrForm.byte : AddrForm → Byte
  | .short a => 0#1 ++ a ++ 1#1
  | .group x g => 2#2 ++ x ++ g ++ 1#1
  | .bcUnaddr => 0xFD#8
  | .bc => 0xFF#8

/-- Stage `G16` on the opcode byte of a 16-bit frame addressed by `form` (R76). -/
def decodeG16 (form : AddrForm) (op : Byte) : Instr :=
  if op &&& 0xF0#8 = 0x10#8 then .g16GotoScene form (op.extractLsb' 0 4)
  else if op &&& 0xF0#8 = 0x40#8 then .g16SetScene form (op.extractLsb' 0 4)
  else if op &&& 0xF0#8 = 0x50#8 then .g16RemoveScene form (op.extractLsb' 0 4)
  else if op &&& 0xF0#8 = 0x60#8 then .g16AddGroup form (op.extractLsb' 0 4)
  else if op &&& 0xF0#8 = 0x70#8 then .g16RemoveGroup form (op.extractLsb' 0 4)
  else if op &&& 0xF0#8 = 0xB0#8 then .g16QuerySceneLevel form (op.extractLsb' 0 4)
  else .g16Lut form op

/-- The command class a top row continues with, where its `next` names a stage (R81): `G16` after the four addressed
16-bit rows, `G24` (one catch-all row, R77) after the four addressed 24-bit rows. -/
def Instr.stageRow : Instr → Option Instr
  | .a16Short a op => some (decodeG16 (.short a) op)
  | .a16Group x g op => some (decodeG16 (.group x g) op)
  | .a16BcUnaddr op => some (decodeG16 .bcUnaddr op)
  | .a16Bc op => some (decodeG16 .bc op)
  | .a24Short a ib op => some (.g24Lut (.short a) ib op)
  | .a24Group x g ib op => some (.g24Lut (.group x g) ib op)
  | .a24BcUnaddr ib op => some (.g24Lut .bcUnaddr ib op)
  | .a24Bc ib op => some (.g24Lut .bc ib op)
  | _ => none

/-- The row of the stage `G16` or `G24` an operation word spells, for an addressed frame; `none` for every other word
(R81). -/
def decodeStage (w : OpWord) : Option Instr := (decode w).stageRow

/-! ### Encoding -/

/-- `{1, len, v}`: the operation word of a FRAME (R60). -/
def frameWord (len : Byte) (v : Value) : OpWord := 1#2 ++ len ++ v

/-- The operation word of a 16-bit frame (R66). -/
def word16 (ab op : Byte) : OpWord := frameWord 16#8 (0#8 ++ ab ++ op)

/-- The operation word of a 24-bit command frame (R67). -/
def word24 (ab ib op : Byte) : OpWord := frameWord 24#8 (ab ++ ib ++ op)

/-- The value of a 24-bit event frame (R68). -/
def eventValue (s23 s22 : BitVec 1) (f1 : BitVec 5) (s15 : BitVec 1) (f2 : BitVec 5) (ev : BitVec 10) : Value :=
  s23 ++ s22 ++ f1 ++ 0#1 ++ s15 ++ f2 ++ ev

/-- The value of a power-cycle frame (R69). -/
def powerCycleValue (gv : BitVec 1) (g : BitVec 5) (av : BitVec 1) (a : BitVec 6) : Value :=
  0x7F7#11 ++ gv ++ g ++ av ++ a

/-- The operation word of an instruction, from the formats R65 to R70. Ignored bits (R62), and the value
of a FRAME of unsupported length (R260), are written 0 (DESIGN CHOICE, log entry 13). -/
def encode : Instr → OpWord
  | .nop => 0#34
  | .loadCtx c => 2#2 ++ 0#24 ++ c
  | .sreset => 3#2 ++ 0#32
  | .f8Data data => frameWord 8#8 (0#16 ++ data)
  | .f8ErrRange v => frameWord 8#8 v
  | .a16Short a op => word16 (AddrForm.short a).byte op
  | .a16Group x g op => word16 (AddrForm.group x g).byte op
  | .a16BcUnaddr op => word16 0xFD#8 op
  | .a16Bc op => word16 0xFF#8 op
  | .a16UnmatchedC0 op => word16 0xC0#8 op
  | .a16Special n op => word16 (6#3 ++ n) op
  | .a16UnmatchedE0 op => word16 0xE0#8 op
  | .a16ReservedE n op => word16 (14#4 ++ n) op
  | .a16UnmatchedF0 op => word16 0xF0#8 op
  | .a16ReservedF1 n op => word16 (30#5 ++ n) op
  | .a16ReservedF8 n op => word16 (62#6 ++ n) op
  | .a16Unmatched ab op => word16 ab op
  | .f16ErrRange v => frameWord 16#8 v
  | .e24PowerCycle gv g av a => frameWord 24#8 (powerCycleValue gv g av a)
  | .e24Reserved f1 f2 ev => frameWord 24#8 (eventValue 1#1 1#1 f1 1#1 f2 ev)
  | .e24InstanceGroup f1 f2 ev => frameWord 24#8 (eventValue 1#1 1#1 f1 0#1 f2 ev)
  | .e24Instance f1 f2 ev => frameWord 24#8 (eventValue 1#1 0#1 f1 1#1 f2 ev)
  | .e24DeviceGroup f1 f2 ev => frameWord 24#8 (eventValue 1#1 0#1 f1 0#1 f2 ev)
  | .e24DeviceInstance s22 f1 f2 ev => frameWord 24#8 (eventValue 0#1 s22 f1 1#1 f2 ev)
  | .e24Device s22 f1 f2 ev => frameWord 24#8 (eventValue 0#1 s22 f1 0#1 f2 ev)
  | .a24Short a ib op => word24 (AddrForm.short a).byte ib op
  | .a24Group x g ib op => word24 (AddrForm.group x g).byte ib op
  | .a24BcUnaddr ib op => word24 0xFD#8 ib op
  | .a24Bc ib op => word24 0xFF#8 ib op
  | .s24InitialiseUnaddressed => word24 0xC1#8 0x01#8 0xFF#8
  | .s24InitialiseAll => word24 0xC1#8 0x01#8 0x00#8
  | .s24InitialiseOne k => word24 0xC1#8 0x01#8 (0#1 ++ k ++ 1#1)
  | .s24InitialiseNone op => word24 0xC1#8 0x01#8 op
  | .s24C1Lut ib op => word24 0xC1#8 ib op
  | .s24DirectWrite ib op => word24 0xC5#8 ib op
  | .s24Dtr1Dtr0 ib op => word24 0xC7#8 ib op
  | .s24Dtr2Dtr1 ib op => word24 0xC9#8 ib op
  | .s24Unknown n ib op => word24 (6#3 ++ n ++ 1#1) ib op
  | .a24ReservedE n ib op => word24 (14#4 ++ n ++ 1#1) ib op
  | .a24ReservedF1 n ib op => word24 (30#5 ++ n ++ 1#1) ib op
  | .a24ReservedF9 n ib op => word24 (62#6 ++ n ++ 1#1) ib op
  | .fErrLen len => frameWord len 0#24
  | .g16GotoScene form k => word16 form.byte (1#4 ++ k)
  | .g16SetScene form k => word16 form.byte (4#4 ++ k)
  | .g16RemoveScene form k => word16 form.byte (5#4 ++ k)
  | .g16AddGroup form k => word16 form.byte (6#4 ++ k)
  | .g16RemoveGroup form k => word16 form.byte (7#4 ++ k)
  | .g16QuerySceneLevel form k => word16 form.byte (11#4 ++ k)
  | .g16Lut form op => word16 form.byte op
  | .g24Lut form ib op => word24 form.byte ib op

/-! ### The host's view of a table row

The table numbers bits over the 34-bit operation word, so a row of stage `top` is given with 40 bits (34 in whole
bytes). A row of stage `G16` or `G24` constrains bits 7:0 alone (R76, R77), and those bits are a command only inside an
addressed frame: an 8-bit row word is therefore placed in the opcode byte of the broadcast 16-bit frame
`F16 0xFF00 | op`, and its row is read by the stage decoder (DESIGN CHOICE, log entry 5). -/

/-- The operation word that presents the table word `w` of `nbits` bits. -/
def tableOpWord (nbits w : Nat) : OpWord :=
  if nbits ≤ 8 then word16 AddrForm.bc.byte (BitVec.ofNat 8 w) else BitVec.ofNat 34 (w % 2 ^ nbits)

/-- The instruction the decoder reads from a table word. A word with a bit above bit 33 is no operation word. -/
def decodeTableWord (nbits w : Nat) : Option Instr :=
  if nbits ≤ 8 then decodeStage (tableOpWord nbits w)
  else if w % 2 ^ nbits < 2 ^ 34 then some (decode (tableOpWord nbits w))
  else none

/-! ### The opcode table (R75, R81), row for row as spec/opcode_table.json has it -/

/-- The command stage a top row continues with (R81, column `next`). -/
inductive Stage where
  | g16
  | g24
  deriving DecidableEq, Repr

/-- A row: its mnemonic, its mask and its match over the operation word, its `next` (R81). -/
structure OpcodeRow where
  mnemonic : String
  mask     : OpWord
  pattern  : OpWord
  next     : Option Stage
  deriving DecidableEq, Repr

/-- "A word `w` matches a row when `w & mask == match`" (R81). -/
def OpcodeRow.hits (r : OpcodeRow) (w : OpWord) : Bool := w &&& r.mask == r.pattern

/-- The port operations and the 8-bit rows, priorities 1 to 5. -/
def topRowsPort : List OpcodeRow :=
  [ ⟨"NOP", 0x300000000#34, 0x000000000#34, none⟩
  , ⟨"LOAD_CTX", 0x300000000#34, 0x200000000#34, none⟩
  , ⟨"SRESET", 0x300000000#34, 0x300000000#34, none⟩
  , ⟨"F8.DATA", 0x3FFFFFF00#34, 0x108000000#34, none⟩
  , ⟨"F8.ERR_RANGE", 0x3FF000000#34, 0x108000000#34, none⟩ ]

/-- The 16-bit rows, priorities 6 to 18. -/
def topRows16 : List OpcodeRow :=
  [ ⟨"A16.SHORT", 0x3FFFF8100#34, 0x110000100#34, some .g16⟩
  , ⟨"A16.GROUP", 0x3FFFFC100#34, 0x110008100#34, some .g16⟩
  , ⟨"A16.BC_UNADDR", 0x3FFFFFF00#34, 0x11000FD00#34, some .g16⟩
  , ⟨"A16.BC", 0x3FFFFFF00#34, 0x11000FF00#34, some .g16⟩
  , ⟨"A16.UNMATCHED.C0", 0x3FFFFFF00#34, 0x11000C000#34, none⟩
  , ⟨"A16.SPECIAL", 0x3FFFFE000#34, 0x11000C000#34, none⟩
  , ⟨"A16.UNMATCHED.E0", 0x3FFFFFF00#34, 0x11000E000#34, none⟩
  , ⟨"A16.RESERVED.E", 0x3FFFFF000#34, 0x11000E000#34, none⟩
  , ⟨"A16.UNMATCHED.F0", 0x3FFFFFF00#34, 0x11000F000#34, none⟩
  , ⟨"A16.RESERVED.F1", 0x3FFFFF800#34, 0x11000F000#34, none⟩
  , ⟨"A16.RESERVED.F8", 0x3FFFFFC00#34, 0x11000F800#34, none⟩
  , ⟨"A16.UNMATCHED", 0x3FFFF0000#34, 0x110000000#34, none⟩
  , ⟨"F16.ERR_RANGE", 0x3FF000000#34, 0x110000000#34, none⟩ ]

/-- The event rows, priorities 19 to 25. -/
def topRowsEvent : List OpcodeRow :=
  [ ⟨"E24.POWER_CYCLE", 0x3FFFFE000#34, 0x118FEE000#34, none⟩
  , ⟨"E24.RESERVED", 0x3FFC18000#34, 0x118C08000#34, none⟩
  , ⟨"E24.INSTANCE_GROUP", 0x3FFC18000#34, 0x118C00000#34, none⟩
  , ⟨"E24.INSTANCE", 0x3FFC18000#34, 0x118808000#34, none⟩
  , ⟨"E24.DEVICE_GROUP", 0x3FFC18000#34, 0x118800000#34, none⟩
  , ⟨"E24.DEVICE_INSTANCE", 0x3FF818000#34, 0x118008000#34, none⟩
  , ⟨"E24.DEVICE", 0x3FF818000#34, 0x118000000#34, none⟩ ]

/-- The other 24-bit rows and `F.ERR_LEN`, priorities 26 to 42. -/
def topRows24 : List OpcodeRow :=
  [ ⟨"A24.SHORT", 0x3FF810000#34, 0x118010000#34, some .g24⟩
  , ⟨"A24.GROUP", 0x3FFC10000#34, 0x118810000#34, some .g24⟩
  , ⟨"A24.BC_UNADDR", 0x3FFFF0000#34, 0x118FD0000#34, some .g24⟩
  , ⟨"A24.BC", 0x3FFFF0000#34, 0x118FF0000#34, some .g24⟩
  , ⟨"S24.INITIALISE.UNADDRESSED", 0x3FFFFFFFF#34, 0x118C101FF#34, none⟩
  , ⟨"S24.INITIALISE.ALL", 0x3FFFFFFFF#34, 0x118C10100#34, none⟩
  , ⟨"S24.INITIALISE.ONE", 0x3FFFFFF81#34, 0x118C10101#34, none⟩
  , ⟨"S24.INITIALISE.NONE", 0x3FFFFFF00#34, 0x118C10100#34, none⟩
  , ⟨"S24.C1.LUT", 0x3FFFF0000#34, 0x118C10000#34, none⟩
  , ⟨"S24.DIRECT_WRITE", 0x3FFFF0000#34, 0x118C50000#34, none⟩
  , ⟨"S24.DTR1_DTR0", 0x3FFFF0000#34, 0x118C70000#34, none⟩
  , ⟨"S24.DTR2_DTR1", 0x3FFFF0000#34, 0x118C90000#34, none⟩
  , ⟨"S24.UNKNOWN", 0x3FFE10000#34, 0x118C10000#34, none⟩
  , ⟨"A24.RESERVED.E", 0x3FFF10000#34, 0x118E10000#34, none⟩
  , ⟨"A24.RESERVED.F1", 0x3FFF90000#34, 0x118F10000#34, none⟩
  , ⟨"A24.RESERVED.F9", 0x3FFFD0000#34, 0x118F90000#34, none⟩
  , ⟨"F.ERR_LEN", 0x300000000#34, 0x100000000#34, none⟩ ]

/-- Stage `top` of the opcode table, in ascending priority (R81). -/
def topRows : List OpcodeRow :=
  topRowsPort ++ topRows16 ++ topRowsEvent ++ topRows24

/-- Stage `G16` of the opcode table (R76). -/
def g16Rows : List OpcodeRow :=
  [ ⟨"G16.GOTO_SCENE", 0x0000000F0#34, 0x000000010#34, none⟩
  , ⟨"G16.SET_SCENE", 0x0000000F0#34, 0x000000040#34, none⟩
  , ⟨"G16.REMOVE_SCENE", 0x0000000F0#34, 0x000000050#34, none⟩
  , ⟨"G16.ADD_GROUP", 0x0000000F0#34, 0x000000060#34, none⟩
  , ⟨"G16.REMOVE_GROUP", 0x0000000F0#34, 0x000000070#34, none⟩
  , ⟨"G16.QUERY_SCENE_LEVEL", 0x0000000F0#34, 0x0000000B0#34, none⟩
  , ⟨"G16.LUT", 0x000000000#34, 0x000000000#34, none⟩ ]

/-- Stage `G24` of the opcode table (R77). -/
def g24Rows : List OpcodeRow :=
  [ ⟨"G24.LUT", 0x000000000#34, 0x000000000#34, none⟩ ]

/-- "Rows of one stage are tried in ascending `priority`; the first match wins" (R81). -/
def firstRow (rows : List OpcodeRow) (w : OpWord) : Option OpcodeRow := rows.find? (fun r => r.hits w)

/-- The mnemonic of an instruction, as spec/opcode_table.json spells it. -/
def Instr.mnemonic : Instr → String
  | .nop => "NOP"
  | .loadCtx _ => "LOAD_CTX"
  | .sreset => "SRESET"
  | .f8Data _ => "F8.DATA"
  | .f8ErrRange _ => "F8.ERR_RANGE"
  | .a16Short _ _ => "A16.SHORT"
  | .a16Group _ _ _ => "A16.GROUP"
  | .a16BcUnaddr _ => "A16.BC_UNADDR"
  | .a16Bc _ => "A16.BC"
  | .a16UnmatchedC0 _ => "A16.UNMATCHED.C0"
  | .a16Special _ _ => "A16.SPECIAL"
  | .a16UnmatchedE0 _ => "A16.UNMATCHED.E0"
  | .a16ReservedE _ _ => "A16.RESERVED.E"
  | .a16UnmatchedF0 _ => "A16.UNMATCHED.F0"
  | .a16ReservedF1 _ _ => "A16.RESERVED.F1"
  | .a16ReservedF8 _ _ => "A16.RESERVED.F8"
  | .a16Unmatched _ _ => "A16.UNMATCHED"
  | .f16ErrRange _ => "F16.ERR_RANGE"
  | .e24PowerCycle _ _ _ _ => "E24.POWER_CYCLE"
  | .e24Reserved _ _ _ => "E24.RESERVED"
  | .e24InstanceGroup _ _ _ => "E24.INSTANCE_GROUP"
  | .e24Instance _ _ _ => "E24.INSTANCE"
  | .e24DeviceGroup _ _ _ => "E24.DEVICE_GROUP"
  | .e24DeviceInstance _ _ _ _ => "E24.DEVICE_INSTANCE"
  | .e24Device _ _ _ _ => "E24.DEVICE"
  | .a24Short _ _ _ => "A24.SHORT"
  | .a24Group _ _ _ _ => "A24.GROUP"
  | .a24BcUnaddr _ _ => "A24.BC_UNADDR"
  | .a24Bc _ _ => "A24.BC"
  | .s24InitialiseUnaddressed => "S24.INITIALISE.UNADDRESSED"
  | .s24InitialiseAll => "S24.INITIALISE.ALL"
  | .s24InitialiseOne _ => "S24.INITIALISE.ONE"
  | .s24InitialiseNone _ => "S24.INITIALISE.NONE"
  | .s24C1Lut _ _ => "S24.C1.LUT"
  | .s24DirectWrite _ _ => "S24.DIRECT_WRITE"
  | .s24Dtr1Dtr0 _ _ => "S24.DTR1_DTR0"
  | .s24Dtr2Dtr1 _ _ => "S24.DTR2_DTR1"
  | .s24Unknown _ _ _ => "S24.UNKNOWN"
  | .a24ReservedE _ _ _ => "A24.RESERVED.E"
  | .a24ReservedF1 _ _ _ => "A24.RESERVED.F1"
  | .a24ReservedF9 _ _ _ => "A24.RESERVED.F9"
  | .fErrLen _ => "F.ERR_LEN"
  | .g16GotoScene _ _ => "G16.GOTO_SCENE"
  | .g16SetScene _ _ => "G16.SET_SCENE"
  | .g16RemoveScene _ _ => "G16.REMOVE_SCENE"
  | .g16AddGroup _ _ => "G16.ADD_GROUP"
  | .g16RemoveGroup _ _ => "G16.REMOVE_GROUP"
  | .g16QuerySceneLevel _ _ => "G16.QUERY_SCENE_LEVEL"
  | .g16Lut _ _ => "G16.LUT"
  | .g24Lut _ _ _ => "G24.LUT"

/-- The rows of a stage. -/
def Stage.rows : Stage → List OpcodeRow
  | .g16 => g16Rows
  | .g24 => g24Rows

/-- The row of the opcode table an instruction stands for: the one with its mnemonic. -/
def Instr.row (i : Instr) : Option OpcodeRow :=
  (topRows ++ g16Rows ++ g24Rows).find? (fun r => r.mnemonic == i.mnemonic)

end Sys2Proof
end

