-- ==== Sys2Proof/Machine/Operands.lean ====
section
/-! DEFINITION. Operands (R25, R71): what an address form resolves to, and the operands that are read back out of a
record's echoed bytes. All of them are contiguous bit fields, zero-extended; nothing is signed and nothing can overflow
(R71, R88). -/

namespace Sys2Proof.Machine

/-- The address part of a record: `akind`, `af1`, `af1v`, `af2`, `af2v` (R25). -/
structure AddrPart where
  akind : AddrKind
  af1   : BitVec 6
  af1v  : Bool
  af2   : BitVec 6
  af2v  : Bool
  deriving DecidableEq, Repr

/-- The command part of a record: `ckind`, `tmpl`, `shape`, `isub` (R24, R26). -/
structure CmdPart where
  ckind : CmdKind
  tmpl  : Byte
  shape : Shape
  isub  : InitSub
  deriving DecidableEq, Repr

/-- An address kind without fields: "the field is 0 and its valid bit is 0" (R25). -/
def AddrPart.bare (k : AddrKind) : AddrPart := ⟨k, 0#6, false, 0#6, false⟩

/-- A command kind that names no table entry and has neither shape nor sub-case (R22, R26). -/
def CmdPart.bare (k : CmdKind) : CmdPart := ⟨k, 0#8, .plain, .unaddressed⟩

/-- The address part of the four addressed forms (R112 to R115). -/
def formPart : AddrForm → AddrPart
  | .short a => ⟨.short, a, true, 0#6, false⟩
  | .group _ g => ⟨.group, g.setWidth 6, true, 0#6, false⟩
  | .bcUnaddr => AddrPart.bare .bcUnaddr
  | .bc => AddrPart.bare .bc

/-- The address part of an event of the five non-reserved categories: both 5-bit fields, both valid (R130, R134). -/
def eventPart (k : AddrKind) (f1 f2 : BitVec 5) : AddrPart := ⟨k, f1.setWidth 6, true, f2.setWidth 6, true⟩

/-- The address part of a power-cycle notification: an absent field reads 0 with valid bit 0 (R132). -/
def powerCyclePart (gv : BitVec 1) (g : BitVec 5) (av : BitVec 1) (a : BitVec 6) : AddrPart :=
  ⟨.powerCycle, if gv = 1#1 then g.setWidth 6 else 0#6, gv = 1#1, if av = 1#1 then a else 0#6, av = 1#1⟩

/-- The family counter `k = op & 0x0F`, read from the echo (R71, R153). -/
def Decoded.counter (dc : Decoded) : Nat := (dc.op.extractLsb' 0 4).toNat

/-- The INITIALISE target `k = op >> 1`, read from the echo (R71, R174). -/
def Decoded.initTarget (dc : Decoded) : Nat := dc.op.toNat / 2

/-- The 10-bit event payload `(dc.ib & 0x03) << 8 | dc.op` (R140, R236). -/
def Decoded.payload (dc : Decoded) : Nat := (dc.ib.extractLsb' 0 2 ++ dc.op).toNat

end Sys2Proof.Machine
end

