-- ==== Sys2Proof/Machine/Ops.lean ====
section
/-! DEFINITION. The shared operations of the block: what an operation does to the state (R36), the records it builds,
and the block's exception, a rejection (R264). There is no return from an exception to model: "There is nothing to
return from and no return operation" (R271). -/

namespace Sys2Proof.Machine

/-- An accepted FRAME whose decode is `dc` (R92): `RES` overwritten whole, `CTX <- dc.next_context`. -/
def State.accept (s : State) (dc : Decoded) : State :=
  { s with ctx := dc.nextContext, res := Res.accepted dc }

/-- Taking the block's exception (R264): a FRAME is rejected with the code `e`. `CTX` is kept, the record is cleared,
`RES_VALID <- 0`, `ERR <- e`, `RES_NEW <- 1`; the block goes on with the next operation (R270). -/
def State.reject (s : State) (e : ErrCode) : State := { s with res := Res.rejected e }

/-- NOP (R91): `RES_NEW <- 0`, everything else kept. -/
def State.idle (s : State) : State := { s with res := s.res.quiet }

/-- LOAD_CTX (R94): `CTX <- c`, `RES_NEW <- 0`, the rest of `RES` kept. -/
def State.loadCtx (s : State) (c : Byte) : State := { s with ctx := c, res := s.res.quiet }

/-- SRESET and hardware reset (R95, R101, R280): `CTX` and `RES` to their reset values; the image is untouched (R35). -/
def State.sessionReset (s : State) : State := { s with ctx := 0#8, res := Res.cleared }

/-- The record of an 8-bit frame (R150). -/
def record8 (data ctx : Byte) : Decoded :=
  { Decoded.cleared with lc := .w8, ckind := .data8, op := data, nextContext := ctx }

/-- The record of a 16-bit frame (R97): `ib = 0`, `next_context = NONE` (R165). -/
def record16 (adr : AddrPart) (cmd : CmdPart) (ab op : Byte) : Decoded :=
  { lc := .w16, akind := adr.akind, af1 := adr.af1, af1v := adr.af1v, af2 := adr.af2, af2v := adr.af2v,
    ckind := cmd.ckind, tmpl := cmd.tmpl, shape := cmd.shape, isub := cmd.isub,
    ab := ab, ib := 0#8, op := op, nextContext := 0#8 }

/-- The record of a 24-bit frame (R98, R130): all three bytes echoed, the context echoed (R99). -/
def record24 (adr : AddrPart) (cmd : CmdPart) (ab ib op ctx : Byte) : Decoded :=
  { lc := .w24, akind := adr.akind, af1 := adr.af1, af1v := adr.af1v, af2 := adr.af2, af2v := adr.af2v,
    ckind := cmd.ckind, tmpl := cmd.tmpl, shape := cmd.shape, isub := cmd.isub,
    ab := ab, ib := ib, op := op, nextContext := ctx }

/-- Accept a 16-bit frame. -/
def State.accept16 (s : State) (adr : AddrPart) (cmd : CmdPart) (ab op : Byte) : State :=
  s.accept (record16 adr cmd ab op)

/-- Accept a 24-bit frame, echoing `CTX` as `next_context`. -/
def State.accept24 (s : State) (adr : AddrPart) (cmd : CmdPart) (ab ib op : Byte) : State :=
  s.accept (record24 adr cmd ab ib op s.ctx)

/-- The start-up of a block built with the configuration `cfg` (R283 steps 1 and 2, R285): the reset state with that
configuration, or a refusal where the image is no configuration of this block (R31, R32, R250, U12; DESIGN CHOICE, log entry 8). -/
def State.powerUp (cfg : Config) : Host.Outcome State Fault Refusal :=
  if isConfiguration cfg.img then .next { State.reset with cfg := cfg } else .refused .notAConfiguration

end Sys2Proof.Machine
end

