-- ==== Sys2Proof/Machine/Control24.lean ====
section
/-! DEFINITION. 24-bit addressed control-device commands and 24-bit reserved addresses (spec 45, and the address classes
of spec 41 on 24-bit frames). -/

namespace Sys2Proof.Machine

/-- `G24.LUT`: the opcode byte is looked up in `CTRL`; a hit names the command (R201), a miss is the placeholder (R202).
The instance byte is echoed and otherwise unused (R203). -/
def execG24Lut (form : AddrForm) (ib op : Byte) (s : State) : Host.Outcome State Fault Refusal :=
  match memRead s.cfg.img .ctrl op with
  | some _ => .next (s.accept24 (formPart form) ⟨.ctrlNamed, op, .plain, .unaddressed⟩ form.byte ib op)
  | none => .next (s.accept24 (formPart form) (CmdPart.bare .ctrlUndef) form.byte ib op)

/-- `A24.SHORT` (R112), then the one row of stage `G24` (R77). -/
def execA24Short (a : BitVec 6) (ib op : Byte) (s : State) : Host.Outcome State Fault Refusal :=
  execG24Lut (.short a) ib op s

/-- `A24.GROUP` (R113), then the one row of stage `G24`. -/
def execA24Group (x : BitVec 1) (g : BitVec 4) (ib op : Byte) (s : State) : Host.Outcome State Fault Refusal :=
  execG24Lut (.group x g) ib op s

/-- `A24.BC_UNADDR` (R114), then the one row of stage `G24`. -/
def execA24BcUnaddr (ib op : Byte) (s : State) : Host.Outcome State Fault Refusal := execG24Lut .bcUnaddr ib op s

/-- `A24.BC` (R115), then the one row of stage `G24`. -/
def execA24Bc (ib op : Byte) (s : State) : Host.Outcome State Fault Refusal := execG24Lut .bc ib op s

/-- A 24-bit frame with a reserved address byte (R204): the bytes are echoed and nothing is looked up. -/
def reserved24 (ab ib op : Byte) (s : State) : State :=
  s.accept24 (AddrPart.bare .reserved) (CmdPart.bare .reserved) ab ib op

/-- `A24.RESERVED.E` (R204): odd in [0xE1, 0xEF]. -/
def execA24ReservedE (n : BitVec 3) (ib op : Byte) (s : State) : Host.Outcome State Fault Refusal :=
  .next (reserved24 (14#4 ++ n ++ 1#1) ib op s)

/-- `A24.RESERVED.F1` (R204): 0xF1, 0xF3, 0xF5, 0xF7. -/
def execA24ReservedF1 (n : BitVec 2) (ib op : Byte) (s : State) : Host.Outcome State Fault Refusal :=
  .next (reserved24 (30#5 ++ n ++ 1#1) ib op s)

/-- `A24.RESERVED.F9` (R204): 0xF9, 0xFB. -/
def execA24ReservedF9 (n : BitVec 1) (ib op : Byte) (s : State) : Host.Outcome State Fault Refusal :=
  .next (reserved24 (62#6 ++ n ++ 1#1) ib op s)

end Sys2Proof.Machine
end

