-- ==== Sys2Proof/Machine/Event24.lean ====
section
/-! DEFINITION. 24-bit event frames and the power-cycle notification (spec 42). -/

namespace Sys2Proof.Machine

/-- Accept the 24-bit event frame of value `v` (R130): its three bytes echoed, the context echoed, no table read. -/
def acceptEvent (adr : AddrPart) (c : CmdKind) (v : Value) (s : State) : State :=
  s.accept24 adr (CmdPart.bare c) (byteHi v) (byteMid v) (byteLo v)

/-- `E24.POWER_CYCLE` (R132). -/
def execE24PowerCycle (gv : BitVec 1) (g : BitVec 5) (av : BitVec 1) (a : BitVec 6) (s : State) :
    Host.Outcome State Fault Refusal :=
  .next (acceptEvent (powerCyclePart gv g av a) .powerCycle (powerCycleValue gv g av a) s)

/-- `E24.RESERVED` (R139): no fields; the payload and the two 5-bit fields stay in the echoes. -/
def execE24Reserved (f1 f2 : BitVec 5) (ev : BitVec 10) (s : State) : Host.Outcome State Fault Refusal :=
  .next (acceptEvent (AddrPart.bare .evReserved) .eventReserved (eventValue 1#1 1#1 f1 1#1 f2 ev) s)

/-- `E24.INSTANCE_GROUP` (R138). -/
def execE24InstanceGroup (f1 f2 : BitVec 5) (ev : BitVec 10) (s : State) : Host.Outcome State Fault Refusal :=
  .next (acceptEvent (eventPart .evInstanceGroup f1 f2) .event (eventValue 1#1 1#1 f1 0#1 f2 ev) s)

/-- `E24.INSTANCE` (R137). -/
def execE24Instance (f1 f2 : BitVec 5) (ev : BitVec 10) (s : State) : Host.Outcome State Fault Refusal :=
  .next (acceptEvent (eventPart .evInstance f1 f2) .event (eventValue 1#1 0#1 f1 1#1 f2 ev) s)

/-- `E24.DEVICE_GROUP` (R136). -/
def execE24DeviceGroup (f1 f2 : BitVec 5) (ev : BitVec 10) (s : State) : Host.Outcome State Fault Refusal :=
  .next (acceptEvent (eventPart .evDeviceGroup f1 f2) .event (eventValue 1#1 0#1 f1 0#1 f2 ev) s)

/-- `E24.DEVICE_INSTANCE` (R135): bit 22 is read by nothing but the echo. -/
def execE24DeviceInstance (s22 : BitVec 1) (f1 f2 : BitVec 5) (ev : BitVec 10) (s : State) :
    Host.Outcome State Fault Refusal :=
  .next (acceptEvent (eventPart .evDeviceInstance f1 f2) .event (eventValue 0#1 s22 f1 1#1 f2 ev) s)

/-- `E24.DEVICE` (R134): bit 22 is read by nothing but the echo. -/
def execE24Device (s22 : BitVec 1) (f1 f2 : BitVec 5) (ev : BitVec 10) (s : State) :
    Host.Outcome State Fault Refusal :=
  .next (acceptEvent (eventPart .evDevice f1 f2) .event (eventValue 0#1 s22 f1 0#1 f2 ev) s)

end Sys2Proof.Machine
end

