-- ==== Sys2Proof/Machine/Gear16.lean ====
section
/-! DEFINITION. 8-bit backward frames and 16-bit frames (spec 43, and the address classes of spec 41 on 16-bit
frames). -/

namespace Sys2Proof.Machine

/-- `F8.DATA` (R150): a bare data byte; the context is echoed. -/
def execF8Data (data : Byte) (s : State) : Host.Outcome State Fault Refusal := .next (s.accept (record8 data s.ctx))

/-! ### Stage `G16` -/

/-- A member of a counted family (R153): the family's base names the command, `op = base + k`; no table is read. -/
def counted16 (base : Byte) (form : AddrForm) (k : BitVec 4) (s : State) : State :=
  s.accept16 (formPart form) ⟨.gearCounted, base, .plain, .unaddressed⟩ form.byte (base + k.setWidth 8)

/-- `G16.GOTO_SCENE` (R154). -/
def execG16GotoScene (form : AddrForm) (k : BitVec 4) (s : State) : Host.Outcome State Fault Refusal :=
  .next (counted16 0x10#8 form k s)

/-- `G16.SET_SCENE` (R155). -/
def execG16SetScene (form : AddrForm) (k : BitVec 4) (s : State) : Host.Outcome State Fault Refusal :=
  .next (counted16 0x40#8 form k s)

/-- `G16.REMOVE_SCENE` (R156). -/
def execG16RemoveScene (form : AddrForm) (k : BitVec 4) (s : State) : Host.Outcome State Fault Refusal :=
  .next (counted16 0x50#8 form k s)

/-- `G16.ADD_GROUP` (R157). -/
def execG16AddGroup (form : AddrForm) (k : BitVec 4) (s : State) : Host.Outcome State Fault Refusal :=
  .next (counted16 0x60#8 form k s)

/-- `G16.REMOVE_GROUP` (R158). -/
def execG16RemoveGroup (form : AddrForm) (k : BitVec 4) (s : State) : Host.Outcome State Fault Refusal :=
  .next (counted16 0x70#8 form k s)

/-- `G16.QUERY_SCENE_LEVEL` (R159). -/
def execG16QuerySceneLevel (form : AddrForm) (k : BitVec 4) (s : State) : Host.Outcome State Fault Refusal :=
  .next (counted16 0xB0#8 form k s)

/-- `G16.LUT`: on a hit the entry names the command (R160), on a miss the placeholder (R161). -/
def execG16Lut (form : AddrForm) (op : Byte) (s : State) : Host.Outcome State Fault Refusal :=
  match memRead s.cfg.img .gear op with
  | some _ => .next (s.accept16 (formPart form) ⟨.gearNamed, op, .plain, .unaddressed⟩ form.byte op)
  | none => .next (s.accept16 (formPart form) (CmdPart.bare .gearUndef) form.byte op)

/-! ### The addressed 16-bit rows -/

/-- The command stage of an addressed 16-bit frame (R72 step 6, R81, R151): the rows of `G16` on the opcode byte. -/
def gearStage (form : AddrForm) (op : Byte) (s : State) : Host.Outcome State Fault Refusal :=
  let k := op.extractLsb' 0 4
  if op &&& 0xF0#8 = 0x10#8 then execG16GotoScene form k s
  else if op &&& 0xF0#8 = 0x40#8 then execG16SetScene form k s
  else if op &&& 0xF0#8 = 0x50#8 then execG16RemoveScene form k s
  else if op &&& 0xF0#8 = 0x60#8 then execG16AddGroup form k s
  else if op &&& 0xF0#8 = 0x70#8 then execG16RemoveGroup form k s
  else if op &&& 0xF0#8 = 0xB0#8 then execG16QuerySceneLevel form k s
  else execG16Lut form op s

/-- `A16.SHORT` (R112). -/
def execA16Short (a : BitVec 6) (op : Byte) (s : State) : Host.Outcome State Fault Refusal :=
  gearStage (.short a) op s

/-- `A16.GROUP` (R113): bit 5 of the address byte is echoed and no part of the group number. -/
def execA16Group (x : BitVec 1) (g : BitVec 4) (op : Byte) (s : State) : Host.Outcome State Fault Refusal :=
  gearStage (.group x g) op s

/-- `A16.BC_UNADDR` (R114). -/
def execA16BcUnaddr (op : Byte) (s : State) : Host.Outcome State Fault Refusal := gearStage .bcUnaddr op s

/-- `A16.BC` (R115). -/
def execA16Bc (op : Byte) (s : State) : Host.Outcome State Fault Refusal := gearStage .bc op s

/-! ### The 16-bit rows that reach no table -/

/-- A 16-bit frame whose address byte is no addressed form: the bytes are echoed and nothing is looked up. -/
def unaddressed16 (k : AddrKind) (c : CmdKind) (ab op : Byte) (s : State) : State :=
  s.accept16 (AddrPart.bare k) (CmdPart.bare c) ab op

/-- `A16.SPECIAL` (R163): all 31 bytes of the range, odd and even. -/
def execA16Special (n : BitVec 5) (op : Byte) (s : State) : Host.Outcome State Fault Refusal :=
  .next (unaddressed16 .special .spc16Unknown (6#3 ++ n) op s)

/-- `A16.RESERVED.E` (R162): [0xE1, 0xEF]. -/
def execA16ReservedE (n : BitVec 4) (op : Byte) (s : State) : Host.Outcome State Fault Refusal :=
  .next (unaddressed16 .reserved .reserved (14#4 ++ n) op s)

/-- `A16.RESERVED.F1` (R162): [0xF1, 0xF7]. -/
def execA16ReservedF1 (n : BitVec 3) (op : Byte) (s : State) : Host.Outcome State Fault Refusal :=
  .next (unaddressed16 .reserved .reserved (30#5 ++ n) op s)

/-- `A16.RESERVED.F8` (R162): [0xF8, 0xFB]. -/
def execA16ReservedF8 (n : BitVec 2) (op : Byte) (s : State) : Host.Outcome State Fault Refusal :=
  .next (unaddressed16 .reserved .reserved (62#6 ++ n) op s)

/-- `A16.UNMATCHED.C0` (R164). -/
def execA16UnmatchedC0 (op : Byte) (s : State) : Host.Outcome State Fault Refusal :=
  .next (unaddressed16 .unmatched .unmatched 0xC0#8 op s)

/-- `A16.UNMATCHED.E0` (R164). -/
def execA16UnmatchedE0 (op : Byte) (s : State) : Host.Outcome State Fault Refusal :=
  .next (unaddressed16 .unmatched .unmatched 0xE0#8 op s)

/-- `A16.UNMATCHED.F0` (R164). -/
def execA16UnmatchedF0 (op : Byte) (s : State) : Host.Outcome State Fault Refusal :=
  .next (unaddressed16 .unmatched .unmatched 0xF0#8 op s)

/-- `A16.UNMATCHED` (R164). -/
def execA16Unmatched (ab op : Byte) (s : State) : Host.Outcome State Fault Refusal :=
  .next (unaddressed16 .unmatched .unmatched ab op s)

end Sys2Proof.Machine
end

