-- ==== Sys2Proof/Machine/Port.lean ====
section
/-! DEFINITION. The port operations other than an accepted FRAME (spec 40, 60): NOP, LOAD_CTX, SRESET, and the three
rejection rows. -/

namespace Sys2Proof.Machine

/-- `NOP` (R91). -/
def execNop (s : State) : Host.Outcome State Fault Refusal := .next s.idle

/-- `LOAD_CTX c` (R94): any of the 256 values is accepted. -/
def execLoadCtx (c : Byte) (s : State) : Host.Outcome State Fault Refusal := .next (s.loadCtx c)

/-- `SRESET` (R95). -/
def execSreset (s : State) : Host.Outcome State Fault Refusal := .next s.sessionReset

/-- `F.ERR_LEN` (R260): raises UnsupportedFrameLength; the value is not examined and the length is not stored. -/
def execFErrLen (_len : Byte) (s : State) : Host.Outcome State Fault Refusal := .next (s.reject .len)

/-- `F8.ERR_RANGE` (R261): raises ValueOutOfRange. -/
def execF8ErrRange (_v : Value) (s : State) : Host.Outcome State Fault Refusal := .next (s.reject .range)

/-- `F16.ERR_RANGE` (R261): raises ValueOutOfRange. -/
def execF16ErrRange (_v : Value) (s : State) : Host.Outcome State Fault Refusal := .next (s.reject .range)

end Sys2Proof.Machine
end

