-- ==== Sys2Proof/Machine/Special24.lean ====
section
/-! DEFINITION. 24-bit special commands (spec 44): address bytes `110nnnn1`. The address kind is `A_SPECIAL` with no
fields for every row. -/

namespace Sys2Proof.Machine

/-- Accept a 24-bit special command. -/
def acceptSpecial (cmd : CmdPart) (ab ib op : Byte) (s : State) : State :=
  s.accept24 (AddrPart.bare .special) cmd ab ib op

/-- An INITIALISE frame `0xC1, 0x01, op` of sub-case `sub` (R171); decoded without a table read. -/
def initialise (sub : InitSub) (op : Byte) (s : State) : State :=
  acceptSpecial ⟨.spcInitialise, 0#8, .plain, sub⟩ 0xC1#8 0x01#8 op s

/-- `S24.INITIALISE.UNADDRESSED` (R172). -/
def execS24InitialiseUnaddressed (s : State) : Host.Outcome State Fault Refusal :=
  .next (initialise .unaddressed 0xFF#8 s)

/-- `S24.INITIALISE.ALL` (R173). -/
def execS24InitialiseAll (s : State) : Host.Outcome State Fault Refusal := .next (initialise .all 0x00#8 s)

/-- `S24.INITIALISE.ONE` (R174): `op = 2k + 1`. -/
def execS24InitialiseOne (k : BitVec 6) (s : State) : Host.Outcome State Fault Refusal :=
  .next (initialise .one (0#1 ++ k ++ 1#1) s)

/-- `S24.INITIALISE.NONE` (R175): no device responds. -/
def execS24InitialiseNone (op : Byte) (s : State) : Host.Outcome State Fault Refusal :=
  .next (initialise .noneResponds op s)

/-- `S24.C1.LUT`: the instance byte selects; on a hit the entry gives the payload shape (R176), on a miss the placeholder
(R177). -/
def execS24C1Lut (ib op : Byte) (s : State) : Host.Outcome State Fault Refusal :=
  match memRead s.cfg.img .c1 ib with
  | some e => .next (acceptSpecial ⟨.spcC1Named, ib, e.shape, .unaddressed⟩ 0xC1#8 ib op s)
  | none => .next (acceptSpecial (CmdPart.bare .spcC1Undef) 0xC1#8 ib op s)

/-- `S24.DIRECT_WRITE` (R178). -/
def execS24DirectWrite (ib op : Byte) (s : State) : Host.Outcome State Fault Refusal :=
  .next (acceptSpecial (CmdPart.bare .spcDirectWrite) 0xC5#8 ib op s)

/-- `S24.DTR1_DTR0` (R179). -/
def execS24Dtr1Dtr0 (ib op : Byte) (s : State) : Host.Outcome State Fault Refusal :=
  .next (acceptSpecial (CmdPart.bare .spcDtr1Dtr0) 0xC7#8 ib op s)

/-- `S24.DTR2_DTR1` (R180). -/
def execS24Dtr2Dtr1 (ib op : Byte) (s : State) : Host.Outcome State Fault Refusal :=
  .next (acceptSpecial (CmdPart.bare .spcDtr2Dtr1) 0xC9#8 ib op s)

/-- `S24.UNKNOWN` (R181): the twelve other odd bytes of the range. -/
def execS24Unknown (n : BitVec 4) (ib op : Byte) (s : State) : Host.Outcome State Fault Refusal :=
  .next (acceptSpecial (CmdPart.bare .spcUnknown) (6#3 ++ n ++ 1#1) ib op s)

end Sys2Proof.Machine
end

