-- ==== Sys2Proof/Machine/Dispatch.lean ====
section
/-! DEFINITION. The dispatch: one arm per row of spec/opcode_table.json, each a direct call of its meaning. -/

namespace Sys2Proof.Machine

def exec (i : Instr) (s : State) : Host.Outcome State Fault Refusal :=
  match i with
  | .nop => Sys2Proof.Machine.execNop s
  | .loadCtx c => Sys2Proof.Machine.execLoadCtx c s
  | .sreset => Sys2Proof.Machine.execSreset s
  | .f8Data data => Sys2Proof.Machine.execF8Data data s
  | .f8ErrRange v => Sys2Proof.Machine.execF8ErrRange v s
  | .a16Short a op => Sys2Proof.Machine.execA16Short a op s
  | .a16Group x g op => Sys2Proof.Machine.execA16Group x g op s
  | .a16BcUnaddr op => Sys2Proof.Machine.execA16BcUnaddr op s
  | .a16Bc op => Sys2Proof.Machine.execA16Bc op s
  | .a16UnmatchedC0 op => Sys2Proof.Machine.execA16UnmatchedC0 op s
  | .a16Special n op => Sys2Proof.Machine.execA16Special n op s
  | .a16UnmatchedE0 op => Sys2Proof.Machine.execA16UnmatchedE0 op s
  | .a16ReservedE n op => Sys2Proof.Machine.execA16ReservedE n op s
  | .a16UnmatchedF0 op => Sys2Proof.Machine.execA16UnmatchedF0 op s
  | .a16ReservedF1 n op => Sys2Proof.Machine.execA16ReservedF1 n op s
  | .a16ReservedF8 n op => Sys2Proof.Machine.execA16ReservedF8 n op s
  | .a16Unmatched ab op => Sys2Proof.Machine.execA16Unmatched ab op s
  | .f16ErrRange v => Sys2Proof.Machine.execF16ErrRange v s
  | .e24PowerCycle gv g av a => Sys2Proof.Machine.execE24PowerCycle gv g av a s
  | .e24Reserved f1 f2 ev => Sys2Proof.Machine.execE24Reserved f1 f2 ev s
  | .e24InstanceGroup f1 f2 ev => Sys2Proof.Machine.execE24InstanceGroup f1 f2 ev s
  | .e24Instance f1 f2 ev => Sys2Proof.Machine.execE24Instance f1 f2 ev s
  | .e24DeviceGroup f1 f2 ev => Sys2Proof.Machine.execE24DeviceGroup f1 f2 ev s
  | .e24DeviceInstance s22 f1 f2 ev => Sys2Proof.Machine.execE24DeviceInstance s22 f1 f2 ev s
  | .e24Device s22 f1 f2 ev => Sys2Proof.Machine.execE24Device s22 f1 f2 ev s
  | .a24Short a ib op => Sys2Proof.Machine.execA24Short a ib op s
  | .a24Group x g ib op => Sys2Proof.Machine.execA24Group x g ib op s
  | .a24BcUnaddr ib op => Sys2Proof.Machine.execA24BcUnaddr ib op s
  | .a24Bc ib op => Sys2Proof.Machine.execA24Bc ib op s
  | .s24InitialiseUnaddressed => Sys2Proof.Machine.execS24InitialiseUnaddressed s
  | .s24InitialiseAll => Sys2Proof.Machine.execS24InitialiseAll s
  | .s24InitialiseOne k => Sys2Proof.Machine.execS24InitialiseOne k s
  | .s24InitialiseNone op => Sys2Proof.Machine.execS24InitialiseNone op s
  | .s24C1Lut ib op => Sys2Proof.Machine.execS24C1Lut ib op s
  | .s24DirectWrite ib op => Sys2Proof.Machine.execS24DirectWrite ib op s
  | .s24Dtr1Dtr0 ib op => Sys2Proof.Machine.execS24Dtr1Dtr0 ib op s
  | .s24Dtr2Dtr1 ib op => Sys2Proof.Machine.execS24Dtr2Dtr1 ib op s
  | .s24Unknown n ib op => Sys2Proof.Machine.execS24Unknown n ib op s
  | .a24ReservedE n ib op => Sys2Proof.Machine.execA24ReservedE n ib op s
  | .a24ReservedF1 n ib op => Sys2Proof.Machine.execA24ReservedF1 n ib op s
  | .a24ReservedF9 n ib op => Sys2Proof.Machine.execA24ReservedF9 n ib op s
  | .fErrLen len => Sys2Proof.Machine.execFErrLen len s
  | .g16GotoScene form k => Sys2Proof.Machine.execG16GotoScene form k s
  | .g16SetScene form k => Sys2Proof.Machine.execG16SetScene form k s
  | .g16RemoveScene form k => Sys2Proof.Machine.execG16RemoveScene form k s
  | .g16AddGroup form k => Sys2Proof.Machine.execG16AddGroup form k s
  | .g16RemoveGroup form k => Sys2Proof.Machine.execG16RemoveGroup form k s
  | .g16QuerySceneLevel form k => Sys2Proof.Machine.execG16QuerySceneLevel form k s
  | .g16Lut form op => Sys2Proof.Machine.execG16Lut form op s
  | .g24Lut form ib op => Sys2Proof.Machine.execG24Lut form ib op s

end Sys2Proof.Machine
end

