-- ==== Sys2Proof/Machine/Step.lean ====
section
/-! DEFINITION. One step of the block (R12, R90, R101): it consumes the operation the host presents next and answers
the whole next state. There is no program counter and no fetch (R27, R283): an operation comes from outside the block,
and here from `State.input` (DESIGN CHOICE, log entry 3). -/

namespace Sys2Proof.Machine

/-- A step. With `rst = 1` the operation word is ignored and the state is reset (R101, R280); otherwise the operation
the word spells is executed. While the host presents nothing, the block waits and nothing changes (R283; DESIGN
CHOICE, log entry 4). -/
def step (s : State) : Host.Outcome State Fault Refusal :=
  match s.input with
  | [] => .next s
  | p :: rest =>
    if p.rst then .next { s with input := rest }.sessionReset
    else exec (decode p.opw) { s with input := rest }

/-- The state in which the host presents the table word `w` of `nbits` bits as the next operation. Nothing else changes:
the operations already presented follow it (DESIGN CHOICE, log entry 5). -/
def State.withFetchWord (s : State) (nbits w : Nat) : State :=
  { s with input := ⟨false, tableOpWord nbits w⟩ :: s.input }

end Sys2Proof.Machine
end

