-- ==== Sys2Proof/Machine/Assembler.lean ====
section
/-! DEFINITION. The one-line form in which the spec writes operations (R85) and its pseudo-operations (R86): each line is
one operation word. The expansions are the shifts and ors of R86's table. -/

namespace Sys2Proof.Machine

/-- A line of R85. -/
inductive AsmLine where
  | nop
  | f8 (x : Byte)
  | f16 (x : BitVec 16)
  | f24 (x : Value)
  | frame (len : Byte) (v : Value)
  | loadctx (c : Byte)
  | sreset
  deriving DecidableEq, Repr

/-- The operation word of a line (R60, R61, R85): `F8`, `F16` and `F24` abbreviate `FRAME 8`, `FRAME 16`, `FRAME 24`. -/
def assemble : AsmLine → OpWord
  | .nop => 0x000000000#34
  | .f8 x => 0x108000000#34 ||| x.setWidth 34
  | .f16 x => 0x110000000#34 ||| x.setWidth 34
  | .f24 x => 0x118000000#34 ||| x.setWidth 34
  | .frame len v => 0x100000000#34 ||| (len.setWidth 34 <<< 24) ||| v.setWidth 34
  | .loadctx c => 0x200000000#34 ||| c.setWidth 34
  | .sreset => 0x300000000#34

/-- `G.SHORT a, op`. -/
def asmGearShort (a : BitVec 6) (op : Byte) : AsmLine :=
  .f16 ((((a.setWidth 16 <<< 1) ||| 1#16) <<< 8) ||| op.setWidth 16)

/-- `G.GROUP g, op`. -/
def asmGearGroup (g : BitVec 4) (op : Byte) : AsmLine :=
  .f16 (((0x81#16 + (g.setWidth 16 <<< 1)) <<< 8) ||| op.setWidth 16)

/-- `G.BC op`. -/
def asmGearBc (op : Byte) : AsmLine := .f16 (0xFF00#16 ||| op.setWidth 16)

/-- `G.BCU op`. -/
def asmGearBcu (op : Byte) : AsmLine := .f16 (0xFD00#16 ||| op.setWidth 16)

/-- `D.SHORT a, ib, op`. -/
def asmDevShort (a : BitVec 6) (ib op : Byte) : AsmLine :=
  .f24 ((((a.setWidth 24 <<< 1) ||| 1#24) <<< 16) ||| (ib.setWidth 24 <<< 8) ||| op.setWidth 24)

/-- `D.GROUP g, ib, op`. -/
def asmDevGroup (g : BitVec 4) (ib op : Byte) : AsmLine :=
  .f24 (((0x81#24 + (g.setWidth 24 <<< 1)) <<< 16) ||| (ib.setWidth 24 <<< 8) ||| op.setWidth 24)

/-- `D.BC ib, op`. -/
def asmDevBc (ib op : Byte) : AsmLine := .f24 (0xFF0000#24 ||| (ib.setWidth 24 <<< 8) ||| op.setWidth 24)

/-- `D.BCU ib, op`. -/
def asmDevBcu (ib op : Byte) : AsmLine := .f24 (0xFD0000#24 ||| (ib.setWidth 24 <<< 8) ||| op.setWidth 24)

/-- `S.C1 ib, op`. -/
def asmC1 (ib op : Byte) : AsmLine := .f24 (0xC10000#24 ||| (ib.setWidth 24 <<< 8) ||| op.setWidth 24)

/-- `S.INITIALISE op`. -/
def asmInitialise (op : Byte) : AsmLine := .f24 (0xC10100#24 ||| op.setWidth 24)

/-- `EVT s23, s22, f1, s15, f2, ev`. -/
def asmEvent (s23 s22 : BitVec 1) (f1 : BitVec 5) (s15 : BitVec 1) (f2 : BitVec 5) (ev : BitVec 10) : AsmLine :=
  .f24 ((s23.setWidth 24 <<< 23) ||| (s22.setWidth 24 <<< 22) ||| (f1.setWidth 24 <<< 17) |||
    (s15.setWidth 24 <<< 15) ||| (f2.setWidth 24 <<< 10) ||| ev.setWidth 24)

/-- `PWR gv, g, av, a`. -/
def asmPower (gv : BitVec 1) (g : BitVec 5) (av : BitVec 1) (a : BitVec 6) : AsmLine :=
  .f24 (0xFEE000#24 ||| (gv.setWidth 24 <<< 12) ||| (g.setWidth 24 <<< 7) ||| (av.setWidth 24 <<< 6) |||
    a.setWidth 24)

end Sys2Proof.Machine
end

