-- ==== Sys2Proof/Machine/Ports.lean ====
section
/-! DEFINITION. The output ports (R90: they "show `CTX` and `RES` as they stand after the step"), as numbers: the codes
of the enumerations (R22, R23, R24) and the fields of the state with their widths, 81 bits in all (R28). The order of the list is the
model's (DESIGN CHOICE, log entry 12). -/

namespace Sys2Proof.Machine

/-- `AddrKind` codes (R23); 15 is never produced. -/
def AddrKind.code : AddrKind → Nat
  | .none => 0
  | .short => 1
  | .group => 2
  | .bcUnaddr => 3
  | .bc => 4
  | .special => 5
  | .reserved => 6
  | .unmatched => 7
  | .evDevice => 8
  | .evDeviceInstance => 9
  | .evDeviceGroup => 10
  | .evInstance => 11
  | .evInstanceGroup => 12
  | .evReserved => 13
  | .powerCycle => 14

/-- `CmdKind` codes (R24); 20 to 31 are never produced. -/
def CmdKind.code : CmdKind → Nat
  | .none => 0
  | .data8 => 1
  | .gearNamed => 2
  | .gearCounted => 3
  | .gearUndef => 4
  | .ctrlNamed => 5
  | .ctrlUndef => 6
  | .spcInitialise => 7
  | .spcC1Named => 8
  | .spcC1Undef => 9
  | .spcDirectWrite => 10
  | .spcDtr1Dtr0 => 11
  | .spcDtr2Dtr1 => 12
  | .spcUnknown => 13
  | .spc16Unknown => 14
  | .reserved => 15
  | .unmatched => 16
  | .event => 17
  | .eventReserved => 18
  | .powerCycle => 19

/-- `ERR` codes (R266); 3 is never produced. -/
def ErrCode.code : ErrCode → Nat
  | .none => 0
  | .len => 1
  | .range => 2

/-- `dc.lc` codes (R22). -/
def LenClass.code : LenClass → Nat
  | .none => 0
  | .w8 => 1
  | .w16 => 2
  | .w24 => 3

/-- `dc.shape` codes (R22); 3 is never produced. -/
def shapeCode : Shape → Nat
  | .plain => 0
  | .hexDec => 1
  | .hexDecBin => 2

/-- `dc.isub` codes (R22). -/
def InitSub.code : InitSub → Nat
  | .unaddressed => 0
  | .all => 1
  | .one => 2
  | .noneResponds => 3

/-- One field on the output ports: its name, its width, its value. -/
structure PortField where
  name  : String
  width : Nat
  value : Nat
  deriving DecidableEq, Repr

/-- The output ports: `CTX` (R20) and the fields of `RES` in the order of R22, each with its width. -/
def State.ports (s : State) : List PortField :=
  [ ⟨"CTX", 8, s.ctx.toNat⟩, ⟨"RES_NEW", 1, s.res.new.toNat⟩, ⟨"RES_VALID", 1, s.res.valid.toNat⟩,
    ⟨"ERR", 2, s.res.err.code⟩, ⟨"dc.lc", 2, s.res.dc.lc.code⟩, ⟨"dc.akind", 4, s.res.dc.akind.code⟩,
    ⟨"dc.af1", 6, s.res.dc.af1.toNat⟩, ⟨"dc.af1v", 1, s.res.dc.af1v.toNat⟩, ⟨"dc.af2", 6, s.res.dc.af2.toNat⟩,
    ⟨"dc.af2v", 1, s.res.dc.af2v.toNat⟩, ⟨"dc.ckind", 5, s.res.dc.ckind.code⟩, ⟨"dc.tmpl", 8, s.res.dc.tmpl.toNat⟩,
    ⟨"dc.shape", 2, shapeCode s.res.dc.shape⟩, ⟨"dc.isub", 2, s.res.dc.isub.code⟩, ⟨"dc.ab", 8, s.res.dc.ab.toNat⟩,
    ⟨"dc.ib", 8, s.res.dc.ib.toNat⟩, ⟨"dc.op", 8, s.res.dc.op.toNat⟩,
    ⟨"dc.next_context", 8, s.res.dc.nextContext.toNat⟩ ]

end Sys2Proof.Machine
end

