-- ==== Sys2Proof/Machine/Pseudocode.lean ====
section
/-! DEFINITION. The spec's own pseudocode, written function for function as it stands in the rules: `RESOLVE` (R110),
`EVCAT` and `EVENT` (R130, R133), `GEARCMD` (R152), `INITSUB` and `SPECIAL24` (R170, R171), `CTRLCMD` (R200), `DEC8`,
`DEC16`, `DEC24`, `DECODE` (R96 to R98, R150) and `STEP` (R90 to R95).

The machine of Machine/Step.lean does not call these: it decodes through the rows of the opcode table and runs one
meaning for each row. That the two agree on every operation word, in every state and for every image is a statement of
Certificates/Slice0/Obligations.lean. -/

namespace Sys2Proof.Machine

/-- `RESOLVE(ab) -> (akind, af1, af1v)` (R110), resolver rules 2 to 7 in the source's order. -/
def specResolve (ab : Byte) : AddrKind × BitVec 6 × Bool :=
  let a := ab.toNat
  if ab.getLsbD 0 = true ∧ 0x00 ≤ a ∧ a ≤ 0x7F then (.short, (ab >>> 1).setWidth 6, true)
  else if ab.getLsbD 0 = true ∧ 0x80 ≤ a ∧ a ≤ 0xBF then (.group, ((ab >>> 1) &&& 0x0F#8).setWidth 6, true)
  else if a = 0xFD then (.bcUnaddr, 0#6, false)
  else if a = 0xFF then (.bc, 0#6, false)
  else if 0xC1 ≤ a ∧ a ≤ 0xDF then (.special, 0#6, false)
  else if (0xE1 ≤ a ∧ a ≤ 0xEF) ∨ (0xF1 ≤ a ∧ a ≤ 0xF7) ∨ (0xF8 ≤ a ∧ a ≤ 0xFB) then (.reserved, 0#6, false)
  else (.unmatched, 0#6, false)

/-- `EventCategory`, in the order the source lists it (R142: codes 0 to 5). -/
inductive EventCategory where
  | reserved
  | device
  | deviceInstance
  | deviceGroup
  | inst
  | instGroup
  deriving DecidableEq, Repr

/-- The numeric code of an event category (R142). The block does not output it. -/
def EventCategory.code : EventCategory → Nat
  | .reserved => 0
  | .device => 1
  | .deviceInstance => 2
  | .deviceGroup => 3
  | .inst => 4
  | .instGroup => 5

/-- `EVCAT(v)` (R133). -/
def specEvcat (v : Value) : EventCategory :=
  if v.getLsbD 23 then
    if v.getLsbD 22 then (if v.getLsbD 15 then .reserved else .instGroup)
    else (if v.getLsbD 15 then .inst else .deviceGroup)
  else (if v.getLsbD 15 then .deviceInstance else .device)

/-- `AKIND_OF` (R130); the category `RESERVED` maps to `A_EV_RESERVED` (R139). -/
def EventCategory.akind : EventCategory → AddrKind
  | .reserved => .evReserved
  | .device => .evDevice
  | .deviceInstance => .evDeviceInstance
  | .deviceGroup => .evDeviceGroup
  | .inst => .evInstance
  | .instGroup => .evInstanceGroup

/-- `EVENT(v, ctx)` (R130). -/
def specEvent (v : Value) (ctx : Byte) : Decoded :=
  let base : Decoded :=
    { Decoded.cleared with
      lc := .w24, ab := (v >>> 16).setWidth 8, ib := (v >>> 8).setWidth 8, op := v.setWidth 8, nextContext := ctx }
  if v.toNat / 2 ^ 13 = 0x7F7 then
    { base with
      akind := .powerCycle, ckind := .powerCycle,
      af1v := v.getLsbD 12,
      af1 := if v.getLsbD 12 then ((v >>> 7) &&& 0x1F#24).setWidth 6 else 0#6,
      af2v := v.getLsbD 6,
      af2 := if v.getLsbD 6 then (v &&& 0x3F#24).setWidth 6 else 0#6 }
  else
    match specEvcat v with
    | .reserved => { base with akind := .evReserved, ckind := .eventReserved }
    | cat =>
      { base with
        akind := cat.akind, ckind := .event,
        af1 := ((v >>> 17) &&& 0x1F#24).setWidth 6, af1v := true,
        af2 := ((v >>> 10) &&& 0x1F#24).setWidth 6, af2v := true }

/-- `GEARCMD(op) -> (ckind, tmpl)` (R152): the family test comes before the table read. -/
def specGearCmd (img : Image) (op : Byte) : CmdKind × Byte :=
  if (op &&& 0xF0#8) ∈ familyBases then (.gearCounted, op &&& 0xF0#8)
  else if (memRead img .gear op).isSome then (.gearNamed, op)
  else (.gearUndef, 0#8)

/-- `INITSUB(op)` (R171). -/
def specInitSub (op : Byte) : InitSub :=
  if op = 0xFF#8 then .unaddressed
  else if op = 0x00#8 then .all
  else if op.getLsbD 0 = true ∧ 0x01 ≤ op.toNat ∧ op.toNat ≤ 0x7F then .one
  else .noneResponds

/-- `SPECIAL24(ab, ib, op)` (R170). -/
def specSpecial24 (img : Image) (ab ib op : Byte) : CmdPart :=
  if ab = 0xC1#8 then
    if ib = 0x01#8 then ⟨.spcInitialise, 0#8, .plain, specInitSub op⟩
    else
      match memRead img .c1 ib with
      | some e => ⟨.spcC1Named, ib, e.shape, .unaddressed⟩
      | none => ⟨.spcC1Undef, 0#8, .plain, .unaddressed⟩
  else if ab = 0xC5#8 then ⟨.spcDirectWrite, 0#8, .plain, .unaddressed⟩
  else if ab = 0xC7#8 then ⟨.spcDtr1Dtr0, 0#8, .plain, .unaddressed⟩
  else if ab = 0xC9#8 then ⟨.spcDtr2Dtr1, 0#8, .plain, .unaddressed⟩
  else ⟨.spcUnknown, 0#8, .plain, .unaddressed⟩

/-- `CTRLCMD(op)` (R200). -/
def specCtrlCmd (img : Image) (op : Byte) : CmdPart :=
  if (memRead img .ctrl op).isSome then ⟨.ctrlNamed, op, .plain, .unaddressed⟩
  else ⟨.ctrlUndef, 0#8, .plain, .unaddressed⟩

/-- `DEC8(v, ctx)` (R150). -/
def specDec8 (v : Value) (ctx : Byte) : Decoded :=
  { lc := .w8, akind := .none, af1 := 0#6, af1v := false, af2 := 0#6, af2v := false, ckind := .data8, tmpl := 0#8,
    shape := .plain, isub := .unaddressed, ab := 0#8, ib := 0#8, op := v.setWidth 8, nextContext := ctx }

/-- `DEC16(v, ctx)` (R97). -/
def specDec16 (img : Image) (v : Value) : Decoded :=
  let ab : Byte := (v >>> 8).setWidth 8
  let op : Byte := v.setWidth 8
  let r := specResolve ab
  let cmd : CmdKind × Byte :=
    match r.1 with
    | .short | .group | .bcUnaddr | .bc => specGearCmd img op
    | .special => (.spc16Unknown, 0#8)
    | .reserved => (.reserved, 0#8)
    | _ => (.unmatched, 0#8)
  { lc := .w16, akind := r.1, af1 := r.2.1, af1v := r.2.2, af2 := 0#6, af2v := false, ckind := cmd.1, tmpl := cmd.2,
    shape := .plain, isub := .unaddressed, ab := ab, ib := 0#8, op := op, nextContext := 0#8 }

/-- `DEC24(v, ctx)` (R98). `RESOLVE` never answers `A_UNMATCHED` for an odd address byte, so the last case is the
reserved one. -/
def specDec24 (img : Image) (v : Value) (ctx : Byte) : Decoded :=
  let ab : Byte := (v >>> 16).setWidth 8
  let ib : Byte := (v >>> 8).setWidth 8
  let op : Byte := v.setWidth 8
  if ab.getLsbD 0 = false then specEvent v ctx
  else
    let r := specResolve ab
    let cmd : CmdPart :=
      match r.1 with
      | .short | .group | .bcUnaddr | .bc => specCtrlCmd img op
      | .special => specSpecial24 img ab ib op
      | _ => ⟨.reserved, 0#8, .plain, .unaddressed⟩
    { lc := .w24, akind := r.1, af1 := r.2.1, af1v := r.2.2, af2 := 0#6, af2v := false, ckind := cmd.ckind,
      tmpl := cmd.tmpl, shape := cmd.shape, isub := cmd.isub, ab := ab, ib := ib, op := op, nextContext := ctx }

/-- `DECODE(len, v, ctx)` (R96): an error is the exception it raises (R260, R261, R263). -/
def specDecode (img : Image) (len : Byte) (v : Value) (ctx : Byte) : Except ErrCode Decoded :=
  if len.toNat ≠ 8 ∧ len.toNat ≠ 16 ∧ len.toNat ≠ 24 then .error .len
  else if v.toNat ≥ 2 ^ len.toNat then .error .range
  else if len.toNat = 8 then .ok (specDec8 v ctx)
  else if len.toNat = 16 then .ok (specDec16 img v)
  else .ok (specDec24 img v ctx)

/-- The effect of the operation FRAME on `CTX` and `RES` (R92, R93, R264). -/
def specFrame (s : State) (len : Byte) (v : Value) : State :=
  match specDecode s.cfg.img len v s.ctx with
  | .ok dc => { s with res := { new := true, valid := true, err := .none, dc := dc }, ctx := dc.nextContext }
  | .error e => { s with res := { new := true, valid := false, err := e, dc := Decoded.cleared } }

/-- `STEP(state, OPW, CFG)` with the reset input (R90, R91, R94, R95, R101): the operation word is consumed, the rest of
the host's operations are left. -/
def specStep (s : State) (p : HostInput) : State :=
  if p.rst then { s with ctx := 0#8, res := { new := false, valid := false, err := .none, dc := Decoded.cleared } }
  else
    match (p.opw >>> 32).toNat with
    | 0 => { s with res := { s.res with new := false } }
    | 1 => specFrame s ((p.opw >>> 24).setWidth 8) (p.opw.setWidth 24)
    | 2 => { s with ctx := p.opw.setWidth 8, res := { s.res with new := false } }
    | _ => { s with ctx := 0#8, res := { new := false, valid := false, err := .none, dc := Decoded.cleared } }

end Sys2Proof.Machine
end

