-- ==== Sys2Proof/Machine/Text.lean ====
section
/-! DEFINITION. `TEXT`, the pure function from a record and the configuration to the source's two strings (spec 46), over
strings as lists of 7-bit characters (R13). Log entry 11 says where it is not defined. -/

namespace Sys2Proof.Machine

/-- A string as the list of its characters (R13). -/
abbrev Text := List Char

/-! ### Number formats (R13) -/

/-- At least `w` digits, padded on the left with `0`; a longer value is printed in full. -/
def zeroPad (w : Nat) (t : Text) : Text := List.replicate (w - t.length) '0' ++ t

/-- The format `d`: decimal without padding. -/
def dec (n : Nat) : Text := Nat.toDigits 10 n

/-- The format `02`: decimal, at least two digits. -/
def dec2 (n : Nat) : Text := zeroPad 2 (dec n)

/-- Upper-case hexadecimal, at least `w` digits (`02X`, `03X`). -/
def hexUpper (w n : Nat) : Text := zeroPad w ((Nat.toDigits 16 n).map Char.toUpper)

/-- Binary, at least `w` digits (`08b`, `012b`). -/
def binary (w n : Nat) : Text := zeroPad w (Nat.toDigits 2 n)

/-- A byte as `0x` and two upper-case digits. -/
def hexByte (b : Byte) : Text := "0x".toList ++ hexUpper 2 b.toNat

/-- `pad(s, w)`: spaces on the right up to length `w`; a longer string unchanged (R13, R211). -/
def pad (t : Text) (w : Nat) : Text := t ++ List.replicate (w - t.length) ' '

/-! ### Labels -/

/-- The two fields of an event label with a category's prefix pair (R217). -/
def eventLabel (p1 p2 : String) (dc : Decoded) : Text :=
  p1.toList ++ dec2 dc.af1.toNat ++ ",".toList ++ p2.toList ++ dec2 dc.af2.toNat

/-- `LABEL(dc)`, unpadded (R212 to R219). -/
def label (dc : Decoded) : Text :=
  match dc.akind with
  | .short => "A".toList ++ dec2 dc.af1.toNat
  | .group => "G".toList ++ dec2 dc.af1.toNat
  | .bcUnaddr => "BC unadr.".toList
  | .bc => "BC".toList
  | .none | .special | .reserved | .unmatched | .evReserved => []
  | .evDevice => eventLabel "A" "T" dc
  | .evDeviceInstance => eventLabel "A" "I" dc
  | .evDeviceGroup => eventLabel "G" "T" dc
  | .evInstance => eventLabel "T" "I" dc
  | .evInstanceGroup => eventLabel "IG" "T" dc
  | .powerCycle =>
    (if dc.af1v then "G".toList ++ dec2 dc.af1.toNat else []) ++
      (if dc.af2v then "A".toList ++ dec2 dc.af2.toNat else [])

/-- The label width by length class (R210, R211); the cleared record has none. -/
def labelWidth (cfg : Config) : LenClass → Option Nat
  | .none => none
  | .w8 => some cfg.labelW8
  | .w16 => some cfg.labelW16
  | .w24 => some cfg.labelW24

/-! ### Command texts -/

/-- The general placeholder form (R220): three hyphens, `CODE`, the byte in hex and in decimal, the table's tail. -/
def placeholder (b : Byte) (tail : String) : Text :=
  "--- CODE ".toList ++ hexByte b ++ " = ".toList ++ dec b.toNat ++ " ".toList ++ tail.toList

/-- The name at a table address, where the image maps it. -/
def nameAt (m : Memory) (space : Space) (a : Byte) : Option Text :=
  (memRead m space a).map (fun e => e.name.toList)

/-- The INITIALISE texts (R226). -/
def initialiseText (dc : Decoded) : Text :=
  match dc.isub with
  | .unaddressed => "INITIALISE (UNADDRESSED)".toList
  | .all => "INITIALISE (ALL)".toList
  | .one => "INITIALISE (G".toList ++ dec2 dc.initTarget ++ ")".toList
  | .noneResponds => "INITIALISE (NONE) - ".toList ++ hexByte dc.op

/-- A `C1` entry's name with its payload, by the shape (R227). -/
def payloadText (n : Text) (dc : Decoded) : Text :=
  match dc.shape with
  | .plain => n
  | .hexDec => n ++ " ".toList ++ hexByte dc.op ++ " = ".toList ++ dec dc.op.toNat
  | .hexDecBin =>
    n ++ " ".toList ++ hexByte dc.op ++ " = ".toList ++ dec dc.op.toNat ++ " = ".toList ++
      binary 8 dc.op.toNat ++ "b".toList

/-- A register pair and its two raw bytes (R230, R231). -/
def pairText (regs : String) (dc : Decoded) : Text :=
  regs.toList ++ " (".toList ++ hexByte dc.ib ++ ",".toList ++ hexByte dc.op ++ ")".toList

/-- The event payload three ways (R236). -/
def eventText (dc : Decoded) : Text :=
  "EVENT 0x".toList ++ hexUpper 3 dc.payload ++ " = ".toList ++ dec dc.payload ++ " = ".toList ++
    binary 12 dc.payload ++ "b".toList

/-- `CMDTEXT(dc, IMG)` (R220 to R238). Not defined for `C_NONE` (R239), nor for a record that names a table entry the
image does not hold: no decode produces one. -/
def cmdText (dc : Decoded) (m : Memory) : Option Text :=
  match dc.ckind with
  | .none => none
  | .data8 => some ("DATA ".toList ++ hexByte dc.op)
  | .gearNamed => nameAt m .gear dc.tmpl
  | .gearCounted => (nameAt m .gear dc.tmpl).map (fun n => n ++ " ".toList ++ dec dc.counter)
  | .gearUndef => some (placeholder dc.op "UNDEFINED CONTROL GEAR COMMAND")
  | .ctrlNamed => nameAt m .ctrl dc.tmpl
  | .ctrlUndef => some (placeholder dc.op "UNDEFINED CONTROL DEVICE COMMAND")
  | .spcInitialise => some (initialiseText dc)
  | .spcC1Named => (nameAt m .c1 dc.tmpl).map (fun n => payloadText n dc)
  | .spcC1Undef => some (placeholder dc.ib "UNDEFINED CONTROL DEVICE SPECIAL COMMAND")
  | .spcDirectWrite =>
    some ("DIRECT WRITE MEMORY (DTR0,".toList ++ hexByte dc.ib ++ ") : ".toList ++ hexByte dc.op)
  | .spcDtr1Dtr0 => some (pairText "DTR1:DTR0" dc)
  | .spcDtr2Dtr1 => some (pairText "DTR2:DTR1" dc)
  | .spcUnknown => some (placeholder dc.ab "UNKNOWN CONTROL DEVICE SPECIAL COMMAND")
  | .spc16Unknown => some (placeholder dc.ab "UNDEFINED SPECIAL COMMAND")
  | .reserved => some "RESERVED".toList
  | .unmatched => some (placeholder dc.ab "UNDEFINED ADDRESS")
  | .event => some (eventText dc)
  | .eventReserved => some "RESERVED EVENT".toList
  | .powerCycle => some "POWER CYCLE EVENT".toList

/-- `TEXT(dc, CFG) -> (address_label, command_text)` (R210). -/
def text (dc : Decoded) (cfg : Config) : Option (Text × Text) :=
  match labelWidth cfg dc.lc, cmdText dc cfg.img with
  | some w, some t => some (pad (label dc) w, t)
  | _, _ => none

/-- The source's two strings for the result a state holds; none while `RES_VALID = 0` (R210, U21). -/
def State.text (s : State) : Option (Text × Text) :=
  if s.res.valid then Sys2Proof.Machine.text s.res.dc s.cfg else none

end Sys2Proof.Machine
end

