-- ==== Sys2Proof/Safety.lean ====
section
/-! DEFINITION. What a safe state of the block is (R37, R30 to R33), and the words the statements are written in: the
state an accepted or a rejected FRAME leaves, spelled out field by field, and the records of 16- and 24-bit frames. -/

namespace Sys2Proof.Machine

/-- The invariants of the result bank, (a) to (h) of R37. -/
structure ResInv (r : Res) : Prop where
  /-- (a) -/
  valid_result : r.valid = true → r.err = .none ∧ r.dc.lc ≠ .none ∧ r.dc.ckind ≠ .none
  /-- (b) -/
  invalid_cleared : r.valid = false → r.dc = Decoded.cleared
  /-- (c) -/
  err_invalid : r.err ≠ .none → r.valid = false
  /-- (d), first field -/
  af1_absent : r.dc.af1v = false → r.dc.af1 = 0#6
  /-- (d), second field -/
  af2_absent : r.dc.af2v = false → r.dc.af2 = 0#6
  /-- (e) -/
  frame8 : r.dc.lc = .w8 → r.dc.akind = .none ∧ r.dc.ckind = .data8 ∧ r.dc.ab = 0#8 ∧ r.dc.ib = 0#8
  /-- (f) -/
  frame16 : r.dc.lc = .w16 →
    r.dc.ib = 0#8 ∧ r.dc.nextContext = 0#8 ∧ 1 ≤ r.dc.akind.code ∧ r.dc.akind.code ≤ 7
  /-- (g), command frames; `A_UNMATCHED` (code 7) never occurs -/
  frame24_command : r.dc.lc = .w24 → r.dc.ab.getLsbD 0 = true → 1 ≤ r.dc.akind.code ∧ r.dc.akind.code ≤ 6
  /-- (g), event frames -/
  frame24_event : r.dc.lc = .w24 → r.dc.ab.getLsbD 0 = false → 8 ≤ r.dc.akind.code ∧ r.dc.akind.code ≤ 14
  /-- (h) -/
  codes : r.err.code ≠ 3 ∧ shapeCode r.dc.shape ≠ 3 ∧ r.dc.akind.code ≠ 15 ∧ r.dc.ckind.code < 20

/-- A safe state: the invariants of R37 hold, the memory is in its canonical form, and the image is a configuration of
this block (R31, R32, R250). -/
structure StateInv (s : State) : Prop where
  res   : ResInv s.res
  memWf : Memory.wf s.cfg.img = true
  image : isConfiguration s.cfg.img = true

/-- The state an accepted FRAME leaves (the column "FRAME accepted" of R36). -/
def afterAccepted (s : State) (dc : Decoded) : State :=
  { ctx := dc.nextContext, res := { new := true, valid := true, err := .none, dc := dc }, cfg := s.cfg, input := s.input }

/-- The state a rejected FRAME leaves (the column "FRAME rejected" of R36). -/
def afterRejected (s : State) (e : ErrCode) : State :=
  { ctx := s.ctx, res := { new := true, valid := false, err := e, dc := Decoded.cleared }, cfg := s.cfg, input := s.input }

/-- A 16-bit record (R97): the address triple `(akind, af1, af1v)`, the bytes, the command pair `(ckind, tmpl)`. -/
def frame16Record (adr : AddrKind × BitVec 6 × Bool) (ab op : Byte) (cmd : CmdKind × Byte) : Decoded :=
  { lc := .w16, akind := adr.1, af1 := adr.2.1, af1v := adr.2.2, af2 := 0#6, af2v := false, ckind := cmd.1,
    tmpl := cmd.2, shape := .plain, isub := .unaddressed, ab := ab, ib := 0#8, op := op, nextContext := 0#8 }

/-- A 24-bit command record (R98). -/
def frame24Record (adr : AddrKind × BitVec 6 × Bool) (ab ib op : Byte) (cmd : CmdPart) (ctx : Byte) : Decoded :=
  { lc := .w24, akind := adr.1, af1 := adr.2.1, af1v := adr.2.2, af2 := 0#6, af2v := false, ckind := cmd.ckind,
    tmpl := cmd.tmpl, shape := cmd.shape, isub := cmd.isub, ab := ab, ib := ib, op := op, nextContext := ctx }

/-- A 24-bit event record (R130). -/
def eventRecord (k : AddrKind) (c : CmdKind) (af1 : BitVec 6) (af1v : Bool) (af2 : BitVec 6) (af2v : Bool)
    (ab ib op ctx : Byte) : Decoded :=
  { lc := .w24, akind := k, af1 := af1, af1v := af1v, af2 := af2, af2v := af2v, ckind := c, tmpl := 0#8,
    shape := .plain, isub := .unaddressed, ab := ab, ib := ib, op := op, nextContext := ctx }

/-- The state in which the host presents the operation word `w`, and nothing after it. -/
def State.presenting (s : State) (w : OpWord) : State := { s with input := [⟨false, w⟩] }

/-- A FRAME operation word the block accepts: `len` in 8, 16, 24 and `v < 2^len` (R63, R64, R92). -/
def inContract (w : OpWord) : Prop :=
  opSel w = 1#2 ∧
    ((opLen w).toNat = 8 ∨ (opLen w).toNat = 16 ∨ (opLen w).toNat = 24) ∧
    (opValue w).toNat < 2 ^ (opLen w).toNat

/-- The command kinds whose text is a `---` placeholder (R242 (c)). -/
def CmdKind.isPlaceholder (k : CmdKind) : Bool :=
  k == .gearUndef || k == .ctrlUndef || k == .spcC1Undef || k == .spcUnknown || k == .spc16Unknown || k == .unmatched

/-- A number below 100 in two decimal digits (R13: the format `02`). -/
def twoDigits (n : Nat) : Text := [Char.ofNat (48 + n / 10), Char.ofNat (48 + n % 10)]

/-- A label padded on the right with spaces to the width `w`, never cut (R13, R211). -/
def padded (w : Nat) (l : Text) : Text := l ++ List.replicate (w - l.length) ' '

end Sys2Proof.Machine

namespace Sys2Proof

open Machine

/-- The label templates of the four addressed forms (R212 to R215). -/
def AddrForm.templateLabel : AddrForm → Text
  | .short a => "A".toList ++ twoDigits a.toNat
  | .group _ g => "G".toList ++ twoDigits g.toNat
  | .bcUnaddr => "BC unadr.".toList
  | .bc => "BC".toList

end Sys2Proof
end

