-- ==== Sys2Proof/Certificates/Slice0/Obligations.lean ====
section
/-! DEFINITION. The statements for the provers, each a `Prop`. They go through the rules of spec/ file by file: the port
operations and the two rejections (spec 40, 60), each row of the opcode table (spec 41 to 45), the decoder and the encoder
(spec 30), the whole step against the spec's pseudocode (spec 40), the invariants (spec 10), reset and start-up (spec 70),
the texts (spec 46). -/

open Sys2Proof Sys2Proof.Machine

/-! ### The step and the port operations -/

/-- A step consumes the operation presented next and runs the decoded instruction, which is well formed, on the state
without it (R60, R90). -/
def Obligations.StepRunsDecodedOperation : Prop :=
  ∀ (s : State) (w : OpWord) (rest : List HostInput), s.input = ⟨false, w⟩ :: rest →
    (decode w).wellFormed = true ∧ step s = exec (decode w) { s with input := rest }

/-- Where the winning top row continues with a command stage (R81), the step is also the execution of the stage's row:
the two views of an addressed frame have one effect. -/
def Obligations.StepRunsTheStageRow : Prop :=
  ∀ (s : State) (w : OpWord) (rest : List HostInput) (j : Instr), s.input = ⟨false, w⟩ :: rest →
    decodeStage w = some j → j.wellFormed = true ∧ step s = exec j { s with input := rest }

/-- A step with `rst = 1` ignores the operation word and has the effect of SRESET (R101, R280): every bit of `CTX` and
`RES` as in the reset state, the configuration and the operations still to come untouched. -/
def Obligations.HardwareResetIgnoresTheWord : Prop :=
  ∀ (s : State) (w : OpWord) (rest : List HostInput), s.input = ⟨true, w⟩ :: rest →
    step s = exec .sreset { s with input := rest } ∧
    step s = .next { ctx := State.reset.ctx, res := State.reset.res, cfg := s.cfg, input := rest }

/-- NOP (R91): `RES_NEW <- 0` and nothing else, whatever the ignored bits of the word hold (R62); in the reset state it
changes nothing. -/
def Obligations.NopClearsTheStrobeOnly : Prop :=
  (∀ s : State, exec .nop s = .next { s with res := { s.res with new := false } }) ∧
  (∀ (s : State) (w : OpWord) (rest : List HostInput), s.input = ⟨false, w⟩ :: rest → opSel w = 0#2 →
    step s = .next { ctx := s.ctx, res := { s.res with new := false }, cfg := s.cfg, input := rest }) ∧
  exec .nop State.reset = .next State.reset

/-- LOAD_CTX (R94): `CTX <- c`, `RES_NEW <- 0`, the rest of `RES` kept, for all 256 values of `c` and whatever
`OPW[31:8]` holds (R62). -/
def Obligations.LoadCtxSetsTheContext : Prop :=
  (∀ (c : Byte) (s : State), exec (.loadCtx c) s = .next { s with ctx := c, res := { s.res with new := false } }) ∧
  (∀ (s : State) (w : OpWord) (rest : List HostInput), s.input = ⟨false, w⟩ :: rest → opSel w = 2#2 →
    step s = .next { ctx := w.extractLsb' 0 8, res := { s.res with new := false }, cfg := s.cfg, input := rest })

/-- SRESET (R95): `CTX` and all of `RES` as in the reset state, bit for bit, whatever the ignored bits hold (R62). -/
def Obligations.SresetEqualsReset : Prop :=
  (∀ s : State, exec .sreset s =
    .next { s with ctx := 0#8, res := { new := false, valid := false, err := .none, dc := Decoded.cleared } }) ∧
  (∀ (s : State) (w : OpWord) (rest : List HostInput), s.input = ⟨false, w⟩ :: rest → opSel w = 3#2 →
    step s = .next { ctx := State.reset.ctx, res := State.reset.res, cfg := s.cfg, input := rest })

/-- UnsupportedFrameLength (R260, R263, R264): a FRAME whose length is not 8, 16 or 24 is rejected with `ERR = 1` whatever
its value, `CTX` kept, the record cleared. -/
def Obligations.BadLengthIsRejected : Prop :=
  (∀ (len : Byte) (s : State), (Instr.fErrLen len).wellFormed = true →
    exec (.fErrLen len) s = .next (afterRejected s .len)) ∧
  (∀ (s : State) (w : OpWord) (rest : List HostInput), s.input = ⟨false, w⟩ :: rest → opSel w = 1#2 →
    (opLen w).toNat ≠ 8 → (opLen w).toNat ≠ 16 → (opLen w).toNat ≠ 24 →
    step s = .next (afterRejected { s with input := rest } .len))

/-- ValueOutOfRange (R261, R264): a FRAME of length 8 or 16 whose value does not fit is rejected with `ERR = 2`, `CTX`
kept, the record cleared; a 24-bit FRAME cannot be out of range. -/
def Obligations.ValueOutOfRangeIsRejected : Prop :=
  (∀ (v : Value) (s : State),
    ((Instr.f8ErrRange v).wellFormed = true → exec (.f8ErrRange v) s = .next (afterRejected s .range)) ∧
    ((Instr.f16ErrRange v).wellFormed = true → exec (.f16ErrRange v) s = .next (afterRejected s .range))) ∧
  (∀ (s : State) (w : OpWord) (rest : List HostInput), s.input = ⟨false, w⟩ :: rest → opSel w = 1#2 →
    ((opLen w).toNat = 8 ∧ 2 ^ 8 ≤ (opValue w).toNat ∨ (opLen w).toNat = 16 ∧ 2 ^ 16 ≤ (opValue w).toNat) →
    step s = .next (afterRejected { s with input := rest } .range)) ∧
  (∀ w : OpWord, (opLen w).toNat = 24 → (opValue w).toNat < 2 ^ (opLen w).toNat)

/-- Every FRAME is answered, and it is accepted exactly when its length is supported and its value in range (R92, R93,
R267): then `RES_VALID = 1` and `ERR = 0`, else `RES_VALID = 0` and `ERR` is 1 or 2. -/
def Obligations.FrameAcceptedExactlyInContract : Prop :=
  ∀ (s : State) (w : OpWord) (rest : List HostInput), s.input = ⟨false, w⟩ :: rest → opSel w = 1#2 →
    ∃ t, step s = .next t ∧ t.res.new = true ∧
      (inContract w → t.res.valid = true ∧ t.res.err = .none ∧ t.ctx = t.res.dc.nextContext) ∧
      (¬ inContract w → t = afterRejected { s with input := rest } t.res.err ∧ t.res.err ≠ .none)

/-! ### 8-bit and 16-bit frames -/

/-- `F8.DATA` (R150): every data byte is accepted, echoed in `op`, without an address; the context is echoed. -/
def Obligations.DataFrameEchoesItsByte : Prop :=
  (∀ (data : Byte) (s : State), exec (.f8Data data) s = .next (afterAccepted s
    { lc := .w8, akind := .none, af1 := 0#6, af1v := false, af2 := 0#6, af2v := false, ckind := .data8, tmpl := 0#8,
      shape := .plain, isub := .unaddressed, ab := 0#8, ib := 0#8, op := data, nextContext := s.ctx })) ∧
  (∀ (s : State) (w : OpWord), opSel w = 1#2 → opLen w = 8#8 → (opValue w).toNat < 2 ^ 8 →
    step (s.presenting w) = exec (.f8Data (byteLo (opValue w))) { s with input := [] })

/-- What the four addressed forms resolve to (R112 to R115), from the resolver as the spec writes it (R110): 98 address
bytes. -/
def Obligations.AddressedFormsResolve : Prop :=
  (∀ a : BitVec 6, specResolve (AddrForm.short a).byte = (.short, a, true)) ∧
  (∀ (x : BitVec 1) (g : BitVec 4), specResolve (AddrForm.group x g).byte = (.group, g.setWidth 6, true)) ∧
  specResolve AddrForm.bcUnaddr.byte = (.bcUnaddr, 0#6, false) ∧
  specResolve AddrForm.bc.byte = (.bc, 0#6, false)

/-- The six counted families (R153 to R159): whatever the addressed form, the command is the family's base, the counter
is the low nibble of the echoed opcode byte, the address is the resolver's, and the context becomes NONE. -/
def Obligations.CountedFamiliesNameTheirBase : Prop :=
  ∀ (form : AddrForm) (k : BitVec 4) (s : State),
    let after := fun (base : Byte) =>
      afterAccepted s (frame16Record (specResolve form.byte) form.byte (base ||| k.setWidth 8) (.gearCounted, base))
    exec (.g16GotoScene form k) s = .next (after 0x10#8) ∧
    exec (.g16SetScene form k) s = .next (after 0x40#8) ∧
    exec (.g16RemoveScene form k) s = .next (after 0x50#8) ∧
    exec (.g16AddGroup form k) s = .next (after 0x60#8) ∧
    exec (.g16RemoveGroup form k) s = .next (after 0x70#8) ∧
    exec (.g16QuerySceneLevel form k) s = .next (after 0xB0#8) ∧
    (∀ b ∈ familyBases, (b ||| k.setWidth 8).extractLsb' 0 4 = k)

/-- `G16.LUT` (R160, R161), for the 160 opcode bytes outside the six counted ranges: a hit names the command by its opcode
byte, a miss is the placeholder kind; never an error. -/
def Obligations.GearTableHitOrMiss : Prop :=
  ∀ (form : AddrForm) (op : Byte) (s : State), isFamily op = false →
    ((memRead s.cfg.img .gear op).isSome = true → exec (.g16Lut form op) s = .next
      (afterAccepted s (frame16Record (specResolve form.byte) form.byte op (.gearNamed, op)))) ∧
    (memRead s.cfg.img .gear op = none → exec (.g16Lut form op) s = .next
      (afterAccepted s (frame16Record (specResolve form.byte) form.byte op (.gearUndef, 0#8))))

/-- The addressed 16-bit rows (R97, R112 to R115, R152): the resolver's address and `GEARCMD` of the opcode byte. -/
def Obligations.AddressedGearFrames : Prop :=
  ∀ (op : Byte) (s : State),
    let after := fun (adr : AddrKind × BitVec 6 × Bool) (ab : Byte) =>
      afterAccepted s (frame16Record adr ab op (specGearCmd s.cfg.img op))
    (∀ a, exec (.a16Short a op) s = .next (after (.short, a, true) (0#1 ++ a ++ 1#1))) ∧
    (∀ x g, exec (.a16Group x g op) s = .next (after (.group, g.setWidth 6, true) (2#2 ++ x ++ g ++ 1#1))) ∧
    exec (.a16BcUnaddr op) s = .next (after (.bcUnaddr, 0#6, false) 0xFD#8) ∧
    exec (.a16Bc op) s = .next (after (.bc, 0#6, false) 0xFF#8)

/-- The 16-bit rows that reach no table (R162 to R164): the address kind is the resolver's, the bytes are echoed, nothing
is looked up, and the context becomes NONE. -/
def Obligations.UnaddressedGearFrames : Prop :=
  ∀ (op : Byte) (s : State),
    let after := fun (ab : Byte) (c : CmdKind) =>
      afterAccepted s (frame16Record (specResolve ab) ab op (c, 0#8))
    (∀ n, n ≠ 0#5 → exec (.a16Special n op) s = .next (after (6#3 ++ n) .spc16Unknown)) ∧
    (∀ n, n ≠ 0#4 → exec (.a16ReservedE n op) s = .next (after (14#4 ++ n) .reserved)) ∧
    (∀ n, n ≠ 0#3 → exec (.a16ReservedF1 n op) s = .next (after (30#5 ++ n) .reserved)) ∧
    (∀ n, exec (.a16ReservedF8 n op) s = .next (after (62#6 ++ n) .reserved)) ∧
    exec (.a16UnmatchedC0 op) s = .next (after 0xC0#8 .unmatched) ∧
    exec (.a16UnmatchedE0 op) s = .next (after 0xE0#8 .unmatched) ∧
    exec (.a16UnmatchedF0 op) s = .next (after 0xF0#8 .unmatched) ∧
    (∀ ab, isUnmatchedRest ab = true → exec (.a16Unmatched ab op) s = .next (after ab .unmatched))

/-! ### 24-bit frames -/

/-- The five event categories (R134 to R138, R140): both 5-bit fields valid, the payload in the echoes, the context
echoed. Bit 22 is free in the two categories that do not read it. -/
def Obligations.EventFramesCarryTwoFields : Prop :=
  ∀ (s22 : BitVec 1) (f1 f2 : BitVec 5) (ev : BitVec 10) (s : State),
    let after := fun (k : AddrKind) (s23 s22 s15 : BitVec 1) =>
      afterAccepted s (eventRecord k .event (f1.setWidth 6) true (f2.setWidth 6) true
        (s23 ++ s22 ++ f1 ++ 0#1) (s15 ++ f2 ++ ev.extractLsb' 8 2) (ev.extractLsb' 0 8) s.ctx)
    exec (.e24Device s22 f1 f2 ev) s = .next (after .evDevice 0#1 s22 0#1) ∧
    exec (.e24DeviceInstance s22 f1 f2 ev) s = .next (after .evDeviceInstance 0#1 s22 1#1) ∧
    exec (.e24DeviceGroup f1 f2 ev) s = .next (after .evDeviceGroup 1#1 0#1 0#1) ∧
    exec (.e24Instance f1 f2 ev) s = .next (after .evInstance 1#1 0#1 1#1) ∧
    exec (.e24InstanceGroup f1 f2 ev) s = .next (after .evInstanceGroup 1#1 1#1 0#1)

/-- The reserved event (R139): no fields, the three bytes echoed. -/
def Obligations.ReservedEventHasNoFields : Prop :=
  ∀ (f1 f2 : BitVec 5) (ev : BitVec 10) (s : State), (Instr.e24Reserved f1 f2 ev).wellFormed = true →
    exec (.e24Reserved f1 f2 ev) s = .next (afterAccepted s (eventRecord .evReserved .eventReserved 0#6 false 0#6 false
      (3#2 ++ f1 ++ 0#1) (1#1 ++ f2 ++ ev.extractLsb' 8 2) (ev.extractLsb' 0 8) s.ctx)) ∧
    opValue (encode (.e24Reserved f1 f2 ev)) >>> 13 ≠ 0x7F7#24

/-- The power-cycle notification (R132): each field is reported when its presence bit is set and reads 0 with valid bit 0
when it is not; the value bits stay in the echoes; the context is echoed. -/
def Obligations.PowerCycleReportsPresentFields : Prop :=
  ∀ (gv : BitVec 1) (g : BitVec 5) (av : BitVec 1) (a : BitVec 6) (s : State),
    exec (.e24PowerCycle gv g av a) s = .next (afterAccepted s (eventRecord .powerCycle .powerCycle
      (if gv = 1#1 then g.setWidth 6 else 0#6) (gv = 1#1) (if av = 1#1 then a else 0#6) (av = 1#1)
      0xFE#8 (7#3 ++ gv ++ g.extractLsb' 1 4) (g.extractLsb' 0 1 ++ av ++ a) s.ctx))

/-- Addressed 24-bit frames and stage `G24` (R200 to R203): the resolver's address, `CTRLCMD` of the opcode byte, the
instance byte echoed and unused, the context echoed. -/
def Obligations.AddressedControlFrames : Prop :=
  ∀ (ib op : Byte) (s : State),
    let after := fun (adr : AddrKind × BitVec 6 × Bool) (ab : Byte) =>
      afterAccepted s (frame24Record adr ab ib op (specCtrlCmd s.cfg.img op) s.ctx)
    (∀ a, exec (.a24Short a ib op) s = .next (after (.short, a, true) (0#1 ++ a ++ 1#1))) ∧
    (∀ x g, exec (.a24Group x g ib op) s = .next (after (.group, g.setWidth 6, true) (2#2 ++ x ++ g ++ 1#1))) ∧
    exec (.a24BcUnaddr ib op) s = .next (after (.bcUnaddr, 0#6, false) 0xFD#8) ∧
    exec (.a24Bc ib op) s = .next (after (.bc, 0#6, false) 0xFF#8) ∧
    (∀ form, exec (.g24Lut form ib op) s = .next (after (specResolve form.byte) form.byte))

/-- Reserved 24-bit addresses (R204): the resolver says reserved, the bytes are echoed, nothing is looked up, the context
is echoed. -/
def Obligations.ReservedControlFrames : Prop :=
  ∀ (ib op : Byte) (s : State),
    let after := fun (ab : Byte) =>
      afterAccepted s (frame24Record (specResolve ab) ab ib op ⟨.reserved, 0#8, .plain, .unaddressed⟩ s.ctx)
    (∀ n, exec (.a24ReservedE n ib op) s = .next (after (14#4 ++ n ++ 1#1)) ∧
      specResolve (14#4 ++ n ++ 1#1) = (.reserved, 0#6, false)) ∧
    (∀ n, exec (.a24ReservedF1 n ib op) s = .next (after (30#5 ++ n ++ 1#1)) ∧
      specResolve (30#5 ++ n ++ 1#1) = (.reserved, 0#6, false)) ∧
    (∀ n, exec (.a24ReservedF9 n ib op) s = .next (after (62#6 ++ n ++ 1#1)) ∧
      specResolve (62#6 ++ n ++ 1#1) = (.reserved, 0#6, false))

/-- INITIALISE (R171 to R175): the sub-case is `INITSUB` of the opcode byte, no table is read, the context is echoed. -/
def Obligations.InitialiseSubCases : Prop :=
  ∀ s : State,
    let after := fun (op : Byte) (sub : InitSub) =>
      afterAccepted s (frame24Record (.special, 0#6, false) 0xC1#8 0x01#8 op ⟨.spcInitialise, 0#8, .plain, sub⟩ s.ctx)
    exec .s24InitialiseUnaddressed s = .next (after 0xFF#8 .unaddressed) ∧
    exec .s24InitialiseAll s = .next (after 0x00#8 .all) ∧
    (∀ k, exec (.s24InitialiseOne k) s = .next (after (0#1 ++ k ++ 1#1) .one) ∧
      specInitSub (0#1 ++ k ++ 1#1) = .one) ∧
    (∀ op, (Instr.s24InitialiseNone op).wellFormed = true →
      exec (.s24InitialiseNone op) s = .next (after op .noneResponds) ∧ specInitSub op = .noneResponds)

/-- The `0xC1` sub-command table (R176, R177): a hit is named by the instance byte and carries the entry's shape, a miss
is the placeholder kind. -/
def Obligations.SubCommandTableHitOrMiss : Prop :=
  ∀ (ib op : Byte) (s : State), ib ≠ 0x01#8 →
    (∀ e, memRead s.cfg.img .c1 ib = some e → exec (.s24C1Lut ib op) s = .next (afterAccepted s
      (frame24Record (.special, 0#6, false) 0xC1#8 ib op ⟨.spcC1Named, ib, e.shape, .unaddressed⟩ s.ctx))) ∧
    (memRead s.cfg.img .c1 ib = none → exec (.s24C1Lut ib op) s = .next (afterAccepted s
      (frame24Record (.special, 0#6, false) 0xC1#8 ib op ⟨.spcC1Undef, 0#8, .plain, .unaddressed⟩ s.ctx)))

/-- The other special address bytes (R178 to R181): direct write, the two register pairs, and the unassigned bytes, each
as `SPECIAL24` (R170) has it. -/
def Obligations.OtherSpecialCommands : Prop :=
  ∀ (ib op : Byte) (s : State),
    let after := fun (ab : Byte) (c : CmdKind) =>
      afterAccepted s (frame24Record (specResolve ab) ab ib op ⟨c, 0#8, .plain, .unaddressed⟩ s.ctx)
    exec (.s24DirectWrite ib op) s = .next (after 0xC5#8 .spcDirectWrite) ∧
    exec (.s24Dtr1Dtr0 ib op) s = .next (after 0xC7#8 .spcDtr1Dtr0) ∧
    exec (.s24Dtr2Dtr1 ib op) s = .next (after 0xC9#8 .spcDtr2Dtr1) ∧
    (∀ n, (Instr.s24Unknown n ib op).wellFormed = true →
      exec (.s24Unknown n ib op) s = .next (after (6#3 ++ n ++ 1#1) .spcUnknown) ∧
      specResolve (6#3 ++ n ++ 1#1) = (.special, 0#6, false))

/-! ### The whole step -/

/-- HEADLINE. One step of the row-driven machine is one `STEP` of the spec's pseudocode (R90 to R98, R101, R110, R130,
R133, R150, R152, R170, R171, R200, R264), for every state, every image, every operation word and either reset level. -/
def Obligations.StepIsThePseudocode : Prop :=
  ∀ (s : State) (p : HostInput) (rest : List HostInput), s.input = p :: rest →
    step s = .next (specStep { s with input := rest } p)

/-- The step never stops (R90, R270): whatever operation the host presents, with either reset level and in every state,
there is exactly one next state, and that operation is consumed. -/
def Obligations.StepAlwaysAnswers : Prop :=
  ∀ (s : State) (p : HostInput) (rest : List HostInput), s.input = p :: rest → ∃ t, step s = .next t ∧ t.input = rest

/-- No operation writes any memory (R43, R285). Every instruction completes (R90; the ill-formed ones too, which is the
model's choice, log entry 14) and leaves the image, so every read of every space, as it was; and so does every step on an
operation the host presents, a reset included. -/
def Obligations.NoOperationWritesMemory : Prop :=
  (∀ (i : Instr) (s : State), ∃ t, exec i s = .next t ∧ t.cfg = s.cfg ∧ t.input = s.input ∧
    ∀ (space : Space) (a : Byte), memRead t.cfg.img space a = memRead s.cfg.img space a) ∧
  (∀ (s : State) (p : HostInput) (rest : List HostInput), s.input = p :: rest → ∃ t, step s = .next t ∧ t.cfg = s.cfg ∧
    ∀ (space : Space) (a : Byte), memRead t.cfg.img space a = memRead s.cfg.img space a)

/-! ### Decoding and encoding -/

/-- HEADLINE. Decoding gives back every well-formed instruction of stage `top`, with every operand at every value. -/
def Obligations.DecodeEncodeRoundTrip : Prop :=
  ∀ i : Instr, i.isTop = true → i.wellFormed = true → decode (encode i) = i

/-- Stage decoding gives back every well-formed row of the stages `G16` and `G24`. -/
def Obligations.StageDecodeEncodeRoundTrip : Prop :=
  ∀ i : Instr, i.isTop = false → i.wellFormed = true → decodeStage (encode i) = some i

/-- Every word decodes to a well-formed row of stage `top` (R81: the stage is total), and a stage row is well formed. -/
def Obligations.DecodeIsWellFormed : Prop :=
  ∀ w : OpWord, (decode w).wellFormed = true ∧ (decode w).isTop = true ∧
    ∀ j, decodeStage w = some j → j.wellFormed = true ∧ j.isTop = false

/-- HEADLINE. No bit of a FRAME of supported length is dropped by decoding: encoding the decoded instruction gives the
word back (R80: unread bits are still echoed). -/
def Obligations.FrameWordIsRecovered : Prop :=
  ∀ w : OpWord, opSel w = 1#2 → (opLen w = 8#8 ∨ opLen w = 16#8 ∨ opLen w = 24#8) →
    encode (decode w) = w ∧ ∀ j, decodeStage w = some j → encode j = w

/-- HEADLINE. The decoder is the opcode table (R81): on every word the first matching row of stage `top`, in priority
order, has the decoded instruction's mnemonic; where it names a next stage, the first matching row of that stage has the
stage row's mnemonic; where it names none, there is no stage row. -/
def Obligations.DecoderIsTheOpcodeTable : Prop :=
  ∀ w : OpWord, ∃ r, firstRow topRows w = some r ∧ r.mnemonic = (decode w).mnemonic ∧
    (r.next = none → decodeStage w = none) ∧
    (∀ st, r.next = some st → ∃ q j, firstRow st.rows w = some q ∧ decodeStage w = some j ∧ q.mnemonic = j.mnemonic)

/-- Words written out from the formats R65 to R70 decode to what they stand for, one or more from each family. -/
def Obligations.WordsDecodeAsTheFormatsSay : Prop :=
  decode 0x000000000#34 = .nop ∧
  decode 0x2ABCDEFFF#34 = .loadCtx 0xFF#8 ∧
  decode 0x3FFFFFFFF#34 = .sreset ∧
  decode 0x10800003C#34 = .f8Data 0x3C#8 ∧
  decode 0x110000B15#34 = .a16Short 5#6 0x15#8 ∧
  decodeStage 0x110000B15#34 = some (.g16GotoScene (.short 5#6) 5#4) ∧
  decode 0x11000A5FF#34 = .a16Group 1#1 2#4 0xFF#8 ∧
  decode 0x118FEF145#34 = .e24PowerCycle 1#1 2#5 1#1 5#6 ∧
  decode 0x1180A0C05#34 = .e24Device 0#1 5#5 3#5 5#10 ∧
  decode 0x1180BFF00#34 = .a24Short 5#6 0xFF#8 0x00#8 ∧
  decodeStage 0x1180BFF00#34 = some (.g24Lut (.short 5#6) 0xFF#8 0x00#8) ∧
  decode 0x118C1010B#34 = .s24InitialiseOne 5#6 ∧
  decode 0x118C51234#34 = .s24DirectWrite 0x12#8 0x34#8 ∧
  decode 0x118FB00FF#34 = .a24ReservedF9 1#1 0x00#8 0xFF#8 ∧
  decode 0x10C000ABC#34 = .fErrLen 12#8

/-- The lines of R85 are the operation words of R60, and the twelve pseudo-operations of R86 assemble to the words of the
rows they abbreviate; `EVT` to the word of the row its selector bits choose. -/
def Obligations.PseudoOperationsAssemble : Prop :=
  (assemble .nop = encode .nop ∧ assemble .sreset = encode .sreset ∧ (∀ c, assemble (.loadctx c) = encode (.loadCtx c)) ∧
    (∀ x, assemble (.f8 x) = encode (.f8Data x)) ∧ (∀ x, assemble (.f16 x) = frameWord 16#8 (0#8 ++ x)) ∧
    (∀ x, assemble (.f24 x) = frameWord 24#8 x) ∧ (∀ len v, assemble (.frame len v) = frameWord len v)) ∧
  (∀ a op, assemble (asmGearShort a op) = encode (.a16Short a op)) ∧
  (∀ g op, assemble (asmGearGroup g op) = encode (.a16Group 0#1 g op)) ∧
  (∀ op, assemble (asmGearBc op) = encode (.a16Bc op) ∧ assemble (asmGearBcu op) = encode (.a16BcUnaddr op)) ∧
  (∀ a ib op, assemble (asmDevShort a ib op) = encode (.a24Short a ib op)) ∧
  (∀ g ib op, assemble (asmDevGroup g ib op) = encode (.a24Group 0#1 g ib op)) ∧
  (∀ ib op, assemble (asmDevBc ib op) = encode (.a24Bc ib op) ∧
    assemble (asmDevBcu ib op) = encode (.a24BcUnaddr ib op) ∧
    assemble (asmC1 ib op) = encode (.s24C1Lut ib op) ∧
    assemble (asmInitialise op) = encode (.s24InitialiseNone op)) ∧
  (∀ gv g av a, assemble (asmPower gv g av a) = encode (.e24PowerCycle gv g av a)) ∧
  (∀ s22 f1 f2 ev, assemble (asmEvent 0#1 s22 f1 0#1 f2 ev) = encode (.e24Device s22 f1 f2 ev) ∧
    assemble (asmEvent 0#1 s22 f1 1#1 f2 ev) = encode (.e24DeviceInstance s22 f1 f2 ev) ∧
    assemble (asmEvent 1#1 0#1 f1 0#1 f2 ev) = encode (.e24DeviceGroup f1 f2 ev) ∧
    assemble (asmEvent 1#1 0#1 f1 1#1 f2 ev) = encode (.e24Instance f1 f2 ev) ∧
    assemble (asmEvent 1#1 1#1 f1 0#1 f2 ev) = encode (.e24InstanceGroup f1 f2 ev) ∧
    assemble (asmEvent 1#1 1#1 f1 1#1 f2 ev) = encode (.e24Reserved f1 f2 ev))

/-- Event round trip (R141): the value built by `EVT s23, s22, f1, s15, f2, ev` decodes to the category of the row
(s23, s22, s15) of the tree with `af1 = f1`, `af2 = f2` and the payload `ev`, under the category's label (R217) and with the
payload three ways as the text (R236); reserved events without fields, under a blank label (R218, R237); the one exception
is the value that equals the power-cycle pattern, which decodes as `E24.POWER_CYCLE` (R238). -/
def Obligations.EventRoundTrip : Prop :=
  ∀ (s23 s22 : BitVec 1) (f1 : BitVec 5) (s15 : BitVec 1) (f2 : BitVec 5) (ev : BitVec 10) (s : State),
    ∃ t lbl txt, step (s.presenting (assemble (asmEvent s23 s22 f1 s15 f2 ev))) = .next t ∧ t.text = some (lbl, txt) ∧
      (let fields := fun (p1 p2 : String) => padded s.cfg.labelW24
        (p1.toList ++ twoDigits f1.toNat ++ ",".toList ++ p2.toList ++ twoDigits f2.toNat)
      if s23 = 1#1 ∧ s22 = 1#1 ∧ s15 = 1#1 ∧ f1 = 31#5 ∧ f2.extractLsb' 3 2 = 3#2 then
        t.res.dc.akind = .powerCycle ∧ txt = "POWER CYCLE EVENT".toList
      else if s23 = 1#1 ∧ s22 = 1#1 ∧ s15 = 1#1 then
        t.res.dc.akind = .evReserved ∧ t.res.dc.ckind = .eventReserved ∧ t.res.dc.af1v = false ∧ t.res.dc.af2v = false ∧
        lbl = List.replicate s.cfg.labelW24 ' ' ∧ txt = "RESERVED EVENT".toList
      else
        t.res.dc.akind = (if s23 = 1#1 then (if s22 = 1#1 then .evInstanceGroup
            else if s15 = 1#1 then .evInstance else .evDeviceGroup)
          else if s15 = 1#1 then .evDeviceInstance else .evDevice) ∧
        t.res.dc.ckind = .event ∧ t.res.dc.af1.toNat = f1.toNat ∧ t.res.dc.af1v = true ∧
        t.res.dc.af2.toNat = f2.toNat ∧ t.res.dc.af2v = true ∧ t.res.dc.payload = ev.toNat ∧
        lbl = (if s23 = 1#1 then (if s22 = 1#1 then fields "IG" "T" else if s15 = 1#1 then fields "T" "I" else fields "G" "T")
          else if s15 = 1#1 then fields "A" "I" else fields "A" "T") ∧
        txt = "EVENT 0x".toList ++ hexUpper 3 ev.toNat ++ " = ".toList ++ dec ev.toNat ++ " = ".toList ++
          binary 12 ev.toNat ++ "b".toList)

/-! ### Invariants -/

/-- HEADLINE. Every step keeps a safe state safe: the invariants (a) to (h) of R37, the canonical form of the memory, and
the image's constraints. It also covers the states in which no operation is presented, where the step is the model's choice
(log entry 4) and answers the state itself. -/
def Obligations.EveryStepKeepsTheInvariants : Prop :=
  ∀ s t : State, StateInv s → step s = .next t → StateInv t

/-- The reset state is safe (R35, R37, R255). That it holds the default image is the model's choice (log entry 2). -/
def Obligations.ResetStateIsSafe : Prop := StateInv State.reset

/-- The output ports: 81 bits in all (R28), each port of R20 and R22 with its width and the value of its field, each field
within its width, the codes of R22, R23 and R24, and every port 0 after reset (R35). The order of the list is the model's
choice (log entry 12). -/
def Obligations.PortsFitTheirWidths : Prop :=
  (∀ f ∈ State.reset.ports, f.value = 0) ∧
  (∀ s : State, (s.ports.map PortField.width).sum = 81 ∧ (∀ f ∈ s.ports, f.value < 2 ^ f.width) ∧
    s.ports.map (fun f => (f.name, f.width, f.value)) =
      [("CTX", 8, s.ctx.toNat), ("RES_NEW", 1, if s.res.new then 1 else 0), ("RES_VALID", 1, if s.res.valid then 1 else 0),
       ("ERR", 2, s.res.err.code), ("dc.lc", 2, s.res.dc.lc.code), ("dc.akind", 4, s.res.dc.akind.code),
       ("dc.af1", 6, s.res.dc.af1.toNat), ("dc.af1v", 1, if s.res.dc.af1v then 1 else 0),
       ("dc.af2", 6, s.res.dc.af2.toNat), ("dc.af2v", 1, if s.res.dc.af2v then 1 else 0),
       ("dc.ckind", 5, s.res.dc.ckind.code), ("dc.tmpl", 8, s.res.dc.tmpl.toNat),
       ("dc.shape", 2, shapeCode s.res.dc.shape), ("dc.isub", 2, s.res.dc.isub.code), ("dc.ab", 8, s.res.dc.ab.toNat),
       ("dc.ib", 8, s.res.dc.ib.toNat), ("dc.op", 8, s.res.dc.op.toNat),
       ("dc.next_context", 8, s.res.dc.nextContext.toNat)]) ∧
  (∀ k : AddrKind, [AddrKind.none, .short, .group, .bcUnaddr, .bc, .special, .reserved, .unmatched, .evDevice,
    .evDeviceInstance, .evDeviceGroup, .evInstance, .evInstanceGroup, .evReserved, .powerCycle][k.code]? = some k) ∧
  (∀ k : CmdKind, [CmdKind.none, .data8, .gearNamed, .gearCounted, .gearUndef, .ctrlNamed, .ctrlUndef, .spcInitialise,
    .spcC1Named, .spcC1Undef, .spcDirectWrite, .spcDtr1Dtr0, .spcDtr2Dtr1, .spcUnknown, .spc16Unknown, .reserved,
    .unmatched, .event, .eventReserved, .powerCycle][k.code]? = some k) ∧
  (∀ e : ErrCode, [ErrCode.none, .len, .range][e.code]? = some e) ∧
  (∀ l : LenClass, [LenClass.none, .w8, .w16, .w24][l.code]? = some l) ∧
  (∀ h : Shape, [Shape.plain, .hexDec, .hexDecBin][shapeCode h]? = some h) ∧
  (∀ i : InitSub, [InitSub.unaddressed, .all, .one, .noneResponds][i.code]? = some i)

/-! ### Rules of the whole machine -/

/-- `next_context`, the table of R99, with R165: after an accepted 8-bit or 24-bit FRAME the context is the one before,
after an accepted 16-bit FRAME it is NONE. -/
def Obligations.NextContextTable : Prop :=
  ∀ (s : State) (w : OpWord), inContract w → ∃ t, step (s.presenting w) = .next t ∧ t.ctx = t.res.dc.nextContext ∧
    ((opLen w).toNat = 8 → t.ctx = s.ctx) ∧ ((opLen w).toNat = 16 → t.ctx = 0#8) ∧
    ((opLen w).toNat = 24 → t.ctx = s.ctx)

/-- A context other than NONE comes from the host alone (R291): where a step changes `CTX`, it becomes NONE, or the
operation is LOAD_CTX and `CTX` is its operand. -/
def Obligations.ContextComesFromTheHost : Prop :=
  ∀ (s : State) (p : HostInput) (rest : List HostInput), s.input = p :: rest → ∃ t, step s = .next t ∧
    (t.ctx = s.ctx ∨ t.ctx = 0#8 ∨ (p.rst = false ∧ opSel p.opw = 2#2 ∧ t.ctx = p.opw.extractLsb' 0 8))

/-- `RES_NEW` is the strobe (R22): after a step it is 1 exactly when the step was a FRAME operation, accepted or
rejected. -/
def Obligations.StrobeMarksFrames : Prop :=
  ∀ (s : State) (p : HostInput) (rest : List HostInput), s.input = p :: rest → ∃ t, step s = .next t ∧
    (t.res.new = true ↔ p.rst = false ∧ opSel p.opw = 1#2)

/-- The lifetime of `ERR` and of the result (R265, R293): NOP and LOAD_CTX keep `ERR`, `RES_VALID` and the record; a FRAME,
SRESET or reset overwrites them independently of what they held. -/
def Obligations.ResultLifetime : Prop :=
  ∀ (s : State) (p : HostInput) (rest : List HostInput) (r : Res), s.input = p :: rest → ∃ t, step s = .next t ∧
    (p.rst = false → opSel p.opw = 0#2 ∨ opSel p.opw = 2#2 →
      t.res.err = s.res.err ∧ t.res.valid = s.res.valid ∧ t.res.dc = s.res.dc) ∧
    (p.rst = true ∨ opSel p.opw = 1#2 ∨ opSel p.opw = 3#2 → step { s with res := r } = .next t)

/-- The context selects nothing (R21, R100 (c)): two states that differ in `CTX` alone answer the same FRAME with records
that differ in `next_context` alone, and with the same flags. -/
def Obligations.ContextSelectsNothing : Prop :=
  ∀ (s : State) (c : Byte) (w : OpWord), opSel w = 1#2 →
    ∃ t u, step (s.presenting w) = .next t ∧ step ({ s with ctx := c }.presenting w) = .next u ∧
      u.res = { t.res with dc := { t.res.dc with nextContext := u.res.dc.nextContext } }

/-- Address and command are independent (R100 (d), R121): of two 16-bit or two 24-bit frames with an addressed form, those
with one address byte agree in the address kind and fields, and those with one opcode byte agree in the command kind and
template, whatever else they hold. -/
def Obligations.AddressAndCommandAreIndependent : Prop :=
  ∀ (f f' : AddrForm) (op op' ib ib' : Byte) (s : State),
    (∃ t u, step (s.presenting (word16 f.byte op)) = .next t ∧ step (s.presenting (word16 f.byte op')) = .next u ∧
      t.res.dc.akind = u.res.dc.akind ∧ t.res.dc.af1 = u.res.dc.af1 ∧ t.res.dc.af1v = u.res.dc.af1v) ∧
    (∃ t u, step (s.presenting (word16 f.byte op)) = .next t ∧ step (s.presenting (word16 f'.byte op)) = .next u ∧
      t.res.dc.ckind = u.res.dc.ckind ∧ t.res.dc.tmpl = u.res.dc.tmpl) ∧
    (∃ t u, step (s.presenting (word24 f.byte ib op)) = .next t ∧
      step (s.presenting (word24 f.byte ib' op')) = .next u ∧
      t.res.dc.akind = u.res.dc.akind ∧ t.res.dc.af1 = u.res.dc.af1 ∧ t.res.dc.af1v = u.res.dc.af1v) ∧
    (∃ t u, step (s.presenting (word24 f.byte ib op)) = .next t ∧
      step (s.presenting (word24 f'.byte ib' op)) = .next u ∧
      t.res.dc.ckind = u.res.dc.ckind ∧ t.res.dc.tmpl = u.res.dc.tmpl)

/-- Bit 5 of a group byte is no part of the group number (R80, R113): in a 16-bit and in a 24-bit frame the two spellings
of a group give the same record but for the echoed address byte. -/
def Obligations.TwoSpellingsOfAGroup : Prop :=
  ∀ (g : BitVec 4) (ib op : Byte) (s : State),
    let low : Byte := 0x81#8 + g.setWidth 8 * 2#8
    let high : Byte := 0xA1#8 + g.setWidth 8 * 2#8
    ∀ w ∈ [(word16 low op, word16 high op), (word24 low ib op, word24 high ib op)],
      ∃ t u, step (s.presenting w.1) = .next t ∧ step (s.presenting w.2) = .next u ∧
        t.res.dc.akind = .group ∧ t.res.dc.af1.toNat = g.toNat ∧ t.res.dc.ab = low ∧
        u = { t with res := { t.res with dc := { t.res.dc with ab := high } } }

/-- Above 0x94 the control-device table misses under every image of this block (R32, R202, R205 (c)). -/
def Obligations.ControlOpcodesAbove94Miss : Prop :=
  ∀ (form : AddrForm) (ib op : Byte) (s : State), isConfiguration s.cfg.img = true → 0x94 < op.toNat →
    exec (.g24Lut form ib op) s = .next (afterAccepted s (frame24Record (specResolve form.byte) form.byte ib op
      ⟨.ctrlUndef, 0#8, .plain, .unaddressed⟩ s.ctx))

/-- The census of the address byte on 16-bit frames (R120) and of the INITIALISE opcode byte (R171), counted with the
pseudocode's resolver and sub-case function. -/
def Obligations.AddressByteCensus : Prop :=
  let count := fun (k : AddrKind) =>
    ((List.range 256).filter (fun a => (specResolve (BitVec.ofNat 8 a)).1 == k)).length
  let subs := fun (i : InitSub) => ((List.range 256).filter (fun a => specInitSub (BitVec.ofNat 8 a) == i)).length
  count .short = 64 ∧ count .group = 32 ∧ count .bcUnaddr = 1 ∧ count .bc = 1 ∧ count .special = 31 ∧
    count .reserved = 26 ∧ count .unmatched = 101 ∧
    subs .unaddressed = 1 ∧ subs .all = 1 ∧ subs .one = 64 ∧ subs .noneResponds = 190

/-! ### Start-up -/

/-- An image that is no configuration of this block is refused: among others one that leaves a family base unmapped
(R31), maps a control-device opcode above 0x94 (R32), or holds a name R250 does not allow (U12): an empty one, one that
starts with `-`, has a space at an end, is `RESERVED`, or has a character that is not printable ASCII (0x20 to 0x7E, log
entry 15). An image that is a configuration starts the block in the reset state with that configuration (R283, R285). That
the refusal is taken at start-up, not in a step, is the model's choice (log entry 8). -/
def Obligations.StartUpRefusesBadImages : Prop :=
  ∀ cfg : Config,
    (isConfiguration cfg.img = false → State.powerUp cfg = .refused .notAConfiguration) ∧
    (∀ b ∈ familyBases, memRead cfg.img .gear b = none → State.powerUp cfg = .refused .notAConfiguration) ∧
    (∀ a : Byte, 0x94 < a.toNat → (memRead cfg.img .ctrl a).isSome = true →
      State.powerUp cfg = .refused .notAConfiguration) ∧
    (∀ (space : Space) (a : Byte) (e : RomEntry), memRead cfg.img space a = some e →
      (e.name = "" ∨ e.name = "RESERVED" ∨ e.name.toList.head? = some '-' ∨ e.name.toList.head? = some ' ' ∨
        e.name.toList.getLast? = some ' ' ∨ (∃ c ∈ e.name.toList, c.toNat < 0x20 ∨ 0x7E < c.toNat)) →
      State.powerUp cfg = .refused .notAConfiguration) ∧
    (isConfiguration cfg.img = true → ∃ s, State.powerUp cfg = .next s ∧ s.cfg = cfg ∧ s.ctx = State.reset.ctx ∧
      s.res = State.reset.res ∧ s.input = [] ∧ StateInv s)

/-- The model's choice (log entry 4, on R283): while the host presents no operation, a step changes nothing. -/
def Obligations.BlockWaitsForTheHost : Prop :=
  ∀ s : State, s.input = [] → step s = .next s

/-! ### Texts -/

/-- `TEXT` is total on what a decode produces (R210, R242 (a)): after an accepted FRAME, with an image of this block, there
are a label and a text; after a rejected one there are none. -/
def Obligations.AcceptedFramesHaveTexts : Prop :=
  ∀ (s : State) (w : OpWord), isConfiguration s.cfg.img = true → opSel w = 1#2 →
    ∃ t, step (s.presenting w) = .next t ∧ (inContract w ↔ ∃ lbl txt, t.text = some (lbl, txt))

/-- The padded label (R211, R242 (b)): for the record of an accepted FRAME it has exactly the configured width whenever
that width is 9 or more, and it is never cut. -/
def Obligations.LabelsFillTheirWidth : Prop :=
  ∀ (s t : State) (w : OpWord) (lbl txt : Text) (n : Nat), inContract w → step (s.presenting w) = .next t →
    t.text = some (lbl, txt) → labelWidth s.cfg t.res.dc.lc = some n →
    lbl.length = max n (label t.res.dc).length ∧ (9 ≤ n → lbl.length = n)

/-- The three visual classes stay apart (R220, R242 (c)): with an image of this block, the text of an accepted FRAME starts
with `---` exactly for the six placeholder kinds, and is `RESERVED` exactly for `C_RESERVED`. -/
def Obligations.PlaceholdersAreDistinguishable : Prop :=
  ∀ (s t : State) (w : OpWord) (lbl txt : Text), isConfiguration s.cfg.img = true → inContract w →
    step (s.presenting w) = .next t → t.text = some (lbl, txt) →
    (("---".toList <+: txt) ↔ t.res.dc.ckind.isPlaceholder = true) ∧
    (txt = "RESERVED".toList ↔ t.res.dc.ckind = .reserved)

/-- The text of a counted family (R153, R222): for base `B` with the name `N` and counter `k`, the frame `addr|B+k` renders
as `N`, a space, `k` in decimal. -/
def Obligations.CountedFamilyText : Prop :=
  ∀ (form : AddrForm) (b : Byte) (k : BitVec 4) (n : Text) (s : State), b ∈ familyBases →
    nameAt s.cfg.img .gear b = some n →
    ∃ t lbl, step (s.presenting (word16 form.byte (b + k.setWidth 8))) = .next t ∧
      t.text = some (lbl, n ++ " ".toList ++ dec k.toNat)

/-- The text of an 8-bit frame (R150, R221): `DATA 0x` and the byte in two upper-case hex digits, under a blank label of
the configured width, for every byte and whatever the context. -/
def Obligations.DataFrameText : Prop :=
  ∀ (d : Byte) (s : State), ∃ t, step (s.presenting (frameWord 8#8 (0#16 ++ d))) = .next t ∧
    t.text = some (List.replicate s.cfg.labelW8 ' ', "DATA 0x".toList ++ hexUpper 2 d.toNat)

/-- Undefined-opcode monotonicity (R161, R202, R205 (d), R223, R225): an opcode byte absent from a table renders the same
placeholder under every addressed form. -/
def Obligations.UndefinedOpcodeText : Prop :=
  ∀ (form : AddrForm) (ib op : Byte) (s : State),
    let code := "--- CODE 0x".toList ++ hexUpper 2 op.toNat ++ " = ".toList ++ dec op.toNat
    (isFamily op = false → memRead s.cfg.img .gear op = none →
      ∃ t lbl, step (s.presenting (word16 form.byte op)) = .next t ∧
        t.text = some (lbl, code ++ " UNDEFINED CONTROL GEAR COMMAND".toList)) ∧
    (memRead s.cfg.img .ctrl op = none →
      ∃ t lbl, step (s.presenting (word24 form.byte ib op)) = .next t ∧
        t.text = some (lbl, code ++ " UNDEFINED CONTROL DEVICE COMMAND".toList))

/-- The four INITIALISE texts (R171, R226), on the frames `0xC101xx`. -/
def Obligations.InitialiseTexts : Prop :=
  ∀ (op : Byte) (s : State), ∃ t lbl, step (s.presenting (assemble (asmInitialise op))) = .next t ∧
    t.text = some (lbl,
      if op = 0xFF#8 then "INITIALISE (UNADDRESSED)".toList
      else if op = 0x00#8 then "INITIALISE (ALL)".toList
      else if op.toNat % 2 = 1 ∧ op.toNat ≤ 0x7F then
        "INITIALISE (G".toList ++ dec2 (op.toNat / 2) ++ ")".toList
      else "INITIALISE (NONE) - 0x".toList ++ hexUpper 2 op.toNat)

/-- The labels of the resolver's kinds and of power-cycle frames, padded to the configured width (R211 to R216, R219): the
four addressed forms under either frame width, the optional fields of a power-cycle notification, and blanks for every
frame whose kind has no label. -/
def Obligations.LabelTemplates : Prop :=
  ∀ s : State, isConfiguration s.cfg.img = true →
    (∀ (form : AddrForm) (ib op : Byte), ∃ t u txt txt', step (s.presenting (word16 form.byte op)) = .next t ∧
      t.text = some (padded s.cfg.labelW16 form.templateLabel, txt) ∧
      step (s.presenting (word24 form.byte ib op)) = .next u ∧
      u.text = some (padded s.cfg.labelW24 form.templateLabel, txt')) ∧
    (∀ gv g av a, ∃ t, step (s.presenting (assemble (asmPower gv g av a))) = .next t ∧
      t.text = some (padded s.cfg.labelW24
        ((if gv = 1#1 then "G".toList ++ twoDigits g.toNat else []) ++
          (if av = 1#1 then "A".toList ++ twoDigits a.toNat else [])), "POWER CYCLE EVENT".toList)) ∧
    (∀ w : OpWord, inContract w → ∃ t lbl txt, step (s.presenting w) = .next t ∧ t.text = some (lbl, txt) ∧
      (t.res.dc.akind ∈ [AddrKind.none, .special, .reserved, .unmatched, .evReserved] → lbl = List.replicate
        (if opLen w = 8#8 then s.cfg.labelW8 else if opLen w = 16#8 then s.cfg.labelW16 else s.cfg.labelW24) ' '))

/-- The texts of table entries (R222, R224, R227, R228): a gear or control-device command renders as its name alone; a
`C1` entry as its name and, by its shape, its payload in hex and decimal, or in hex, decimal and binary; a `C1` miss as the
placeholder with the instance byte. -/
def Obligations.TableEntryTexts : Prop :=
  ∀ (form : AddrForm) (ib op : Byte) (s : State),
    (∀ n, isFamily op = false → nameAt s.cfg.img .gear op = some n →
      ∃ t lbl, step (s.presenting (word16 form.byte op)) = .next t ∧ t.text = some (lbl, n)) ∧
    (∀ n, nameAt s.cfg.img .ctrl op = some n →
      ∃ t lbl, step (s.presenting (word24 form.byte ib op)) = .next t ∧ t.text = some (lbl, n)) ∧
    (ib ≠ 0x01#8 → ∃ t lbl, step (s.presenting (word24 0xC1#8 ib op)) = .next t ∧ t.text = some (lbl,
      let hexDec := " 0x".toList ++ hexUpper 2 op.toNat ++ " = ".toList ++ dec op.toNat
      match memRead s.cfg.img .c1 ib with
      | some ⟨n, .plain⟩ => n.toList
      | some ⟨n, .hexDec⟩ => n.toList ++ hexDec
      | some ⟨n, .hexDecBin⟩ => n.toList ++ hexDec ++ " = ".toList ++ binary 8 op.toNat ++ "b".toList
      | none => "--- CODE 0x".toList ++ hexUpper 2 ib.toNat ++ " = ".toList ++ dec ib.toNat ++
          " UNDEFINED CONTROL DEVICE SPECIAL COMMAND".toList))

/-- The texts of the frames that reach no table (R229 to R235): direct write, the two register pairs, the unassigned
special bytes of either width, the address bytes no rule covers, and `RESERVED`. -/
def Obligations.UntabledTexts : Prop :=
  ∀ (ib op : Byte) (s : State),
    let shows := fun (w : OpWord) (txt : Text) => ∃ t lbl, step (s.presenting w) = .next t ∧ t.text = some (lbl, txt)
    let hex := fun (b : Byte) => "0x".toList ++ hexUpper 2 b.toNat
    let code := fun (b : Byte) => "--- CODE ".toList ++ hex b ++ " = ".toList ++ dec b.toNat
    shows (word24 0xC5#8 ib op) ("DIRECT WRITE MEMORY (DTR0,".toList ++ hex ib ++ ") : ".toList ++ hex op) ∧
    shows (word24 0xC7#8 ib op) ("DTR1:DTR0 (".toList ++ hex ib ++ ",".toList ++ hex op ++ ")".toList) ∧
    shows (word24 0xC9#8 ib op) ("DTR2:DTR1 (".toList ++ hex ib ++ ",".toList ++ hex op ++ ")".toList) ∧
    (∀ ab ∈ [0xC3#8, 0xCB#8, 0xCD#8, 0xCF#8, 0xD1#8, 0xD3#8, 0xD5#8, 0xD7#8, 0xD9#8, 0xDB#8, 0xDD#8, 0xDF#8],
      shows (word24 ab ib op) (code ab ++ " UNKNOWN CONTROL DEVICE SPECIAL COMMAND".toList)) ∧
    (∀ ab : Byte, (specResolve ab).1 = .special →
      shows (word16 ab op) (code ab ++ " UNDEFINED SPECIAL COMMAND".toList)) ∧
    (∀ ab : Byte, (specResolve ab).1 = .unmatched → shows (word16 ab op) (code ab ++ " UNDEFINED ADDRESS".toList)) ∧
    (∀ ab : Byte, (specResolve ab).1 = .reserved → shows (word16 ab op) "RESERVED".toList ∧
      (ab.getLsbD 0 = true → shows (word24 ab ib op) "RESERVED".toList))

/-- The number formats of R13, for every number a label or a text can hold: decimal without padding and with two digits,
upper-case hexadecimal with two and three digits, binary with eight and twelve. -/
def Obligations.NumberFormats : Prop :=
  let upper := fun (n : Nat) => Char.ofNat (if n < 10 then 48 + n else 55 + n)
  let bits := fun (w n : Nat) => (List.range w).map (fun i => if n / 2 ^ (w - 1 - i) % 2 = 1 then '1' else '0')
  (∀ n < 100, dec2 n = twoDigits n) ∧
  (∀ n < 10, dec n = [Char.ofNat (48 + n)]) ∧
  (∀ n < 1024, 10 ≤ n → dec n = dec (n / 10) ++ [Char.ofNat (48 + n % 10)]) ∧
  (∀ n < 256, hexUpper 2 n = [upper (n / 16), upper (n % 16)]) ∧
  (∀ n < 1024, hexUpper 3 n = [upper (n / 256), upper (n / 16 % 16), upper (n % 16)]) ∧
  (∀ n < 256, binary 8 n = bits 8 n) ∧
  (∀ n < 1024, binary 12 n = bits 12 n)
end

