-- ==== Sys2Proof/Laws/Bits.lean ====
section
/-! SUPPORT. Bit fields of operation words and values: taking a field out of a concatenation, and putting a word together
again from its fields. The widths of the concatenations add up to 24 and 34 by computation only, so these lemmas are
applied as terms. -/

namespace Sys2Proof.Laws

theorem extract_append_low {m n : Nat} (x : BitVec m) (y : BitVec n) (k l : Nat) (h : k + l ≤ n) :
    (x ++ y).extractLsb' k l = y.extractLsb' k l := by
  apply BitVec.eq_of_getLsbD_eq
  intro i hi
  simp [BitVec.getLsbD_append, hi]
  intro hn
  omega

theorem extract_append_high {m n : Nat} (x : BitVec m) (y : BitVec n) (k l : Nat) (h : n ≤ k) :
    (x ++ y).extractLsb' k l = x.extractLsb' (k - n) l := by
  apply BitVec.eq_of_getLsbD_eq
  intro i hi
  have h1 : ¬ k + i < n := by omega
  have h2 : k + i - n = k - n + i := by omega
  simp [BitVec.getLsbD_append, hi, h1, h2]

theorem extract_all {n : Nat} (x : BitVec n) : x.extractLsb' 0 n = x := by
  apply BitVec.eq_of_getLsbD_eq
  intro i hi
  simp [hi]

theorem append_extract {m n : Nat} (x : BitVec (m + n)) : x.extractLsb' n m ++ x.extractLsb' 0 n = x := by
  apply BitVec.eq_of_getLsbD_eq
  intro i hi
  simp only [BitVec.getLsbD_append, BitVec.getLsbD_extractLsb']
  by_cases h : i < n
  · simp [h]
  · have h1 : i - n < m := by omega
    have h2 : n + (i - n) = i := by omega
    simp [h, h1, h2]

theorem extract_extract {w : Nat} (x : BitVec w) (a b k l : Nat) (h : k + l ≤ b) :
    (x.extractLsb' a b).extractLsb' k l = x.extractLsb' (a + k) l := by
  apply BitVec.eq_of_getLsbD_eq
  intro i hi
  have h1 : k + i < b := by omega
  simp [hi, h1, Nat.add_assoc]

theorem extract_append_extract {w : Nat} (x : BitVec w) (lo m n : Nat) :
    x.extractLsb' (lo + n) m ++ x.extractLsb' lo n = x.extractLsb' lo (m + n) := by
  apply BitVec.eq_of_getLsbD_eq
  intro i hi
  simp only [BitVec.getLsbD_append, BitVec.getLsbD_extractLsb']
  by_cases h : i < n
  · have : i < m + n := by omega
    simp [h, this]
  · have h1 : i - n < m := by omega
    have h2 : lo + n + (i - n) = lo + i := by omega
    have h3 : i < m + n := by omega
    simp [h, h1, h2, h3]

/-! ### The operation word of a FRAME -/

@[simp] theorem opSel_frameWord (len : Byte) (v : Value) : opSel (frameWord len v) = 1#2 :=
  (extract_append_high (1#2 ++ len) v 32 2 (by decide)).trans
    ((extract_append_high 1#2 len 8 2 (by decide)).trans (extract_all _))

@[simp] theorem opLen_frameWord (len : Byte) (v : Value) : opLen (frameWord len v) = len :=
  (extract_append_high (1#2 ++ len) v 24 8 (by decide)).trans
    ((extract_append_low 1#2 len 0 8 (by decide)).trans (extract_all _))

@[simp] theorem opValue_frameWord (len : Byte) (v : Value) : opValue (frameWord len v) = v :=
  (extract_append_low (1#2 ++ len) v 0 24 (by decide)).trans (extract_all _)

theorem frameWord_eta (w : OpWord) (h : opSel w = 1#2) : frameWord (opLen w) (opValue w) = w := by
  have h1 : opSel w ++ opLen w = w.extractLsb' 24 10 := extract_append_extract w 24 2 8
  have h2 : w.extractLsb' 24 10 ++ opValue w = w := append_extract (m := 10) (n := 24) w
  rw [h] at h1
  unfold frameWord
  exact (congrArg (· ++ opValue w) h1).trans h2

/-! ### The bytes of a value -/

@[simp] theorem byteHi_append (a b c : Byte) : byteHi (a ++ b ++ c) = a :=
  (extract_append_high (a ++ b) c 16 8 (by decide)).trans
    ((extract_append_high a b 8 8 (by decide)).trans (extract_all _))

@[simp] theorem byteMid_append (a b c : Byte) : byteMid (a ++ b ++ c) = b :=
  (extract_append_high (a ++ b) c 8 8 (by decide)).trans
    ((extract_append_low a b 0 8 (by decide)).trans (extract_all _))

@[simp] theorem byteLo_append (a b c : Byte) : byteLo (a ++ b ++ c) = c :=
  (extract_append_low (a ++ b) c 0 8 (by decide)).trans (extract_all _)

theorem value_eta (v : Value) : byteHi v ++ byteMid v ++ byteLo v = v := by
  have h1 : byteHi v ++ byteMid v = v.extractLsb' 8 16 := extract_append_extract v 8 8 8
  have h2 : v.extractLsb' 8 16 ++ byteLo v = v := append_extract (m := 16) (n := 8) v
  exact (congrArg (· ++ byteLo v) h1).trans h2

/-- The value of an 8-bit frame carries its data byte alone. -/
theorem byteLo_data (d : Byte) : byteLo (0#16 ++ d) = d :=
  (extract_append_low 0#16 d 0 8 (by decide)).trans (extract_all _)

theorem highHalf_data (d : Byte) : (0#16 ++ d : Value).extractLsb' 8 16 = 0#16 :=
  (extract_append_high 0#16 d 8 16 (by decide)).trans (extract_all _)

/-! ### The fields of an event value (R68) -/

section
variable (s23 s22 : BitVec 1) (f1 : BitVec 5) (s15 : BitVec 1) (f2 : BitVec 5) (ev : BitVec 10)

theorem eventValue_s23 : (eventValue s23 s22 f1 s15 f2 ev).extractLsb' 23 1 = s23 :=
  (extract_append_high (s23 ++ s22 ++ f1 ++ 0#1 ++ s15 ++ f2) ev 23 1 (by decide)).trans
    ((extract_append_high (s23 ++ s22 ++ f1 ++ 0#1 ++ s15) f2 13 1 (by decide)).trans
      ((extract_append_high (s23 ++ s22 ++ f1 ++ 0#1) s15 8 1 (by decide)).trans
        ((extract_append_high (s23 ++ s22 ++ f1) 0#1 7 1 (by decide)).trans
          ((extract_append_high (s23 ++ s22) f1 6 1 (by decide)).trans
            ((extract_append_high s23 s22 1 1 (by decide)).trans (extract_all _))))))

theorem eventValue_s22 : (eventValue s23 s22 f1 s15 f2 ev).extractLsb' 22 1 = s22 :=
  (extract_append_high (s23 ++ s22 ++ f1 ++ 0#1 ++ s15 ++ f2) ev 22 1 (by decide)).trans
    ((extract_append_high (s23 ++ s22 ++ f1 ++ 0#1 ++ s15) f2 12 1 (by decide)).trans
      ((extract_append_high (s23 ++ s22 ++ f1 ++ 0#1) s15 7 1 (by decide)).trans
        ((extract_append_high (s23 ++ s22 ++ f1) 0#1 6 1 (by decide)).trans
          ((extract_append_high (s23 ++ s22) f1 5 1 (by decide)).trans
            ((extract_append_low s23 s22 0 1 (by decide)).trans (extract_all _))))))

theorem eventValue_f1 : (eventValue s23 s22 f1 s15 f2 ev).extractLsb' 17 5 = f1 :=
  (extract_append_high (s23 ++ s22 ++ f1 ++ 0#1 ++ s15 ++ f2) ev 17 5 (by decide)).trans
    ((extract_append_high (s23 ++ s22 ++ f1 ++ 0#1 ++ s15) f2 7 5 (by decide)).trans
      ((extract_append_high (s23 ++ s22 ++ f1 ++ 0#1) s15 2 5 (by decide)).trans
        ((extract_append_high (s23 ++ s22 ++ f1) 0#1 1 5 (by decide)).trans
          ((extract_append_low (s23 ++ s22) f1 0 5 (by decide)).trans (extract_all _)))))

theorem eventValue_selector : (eventValue s23 s22 f1 s15 f2 ev).extractLsb' 16 1 = 0#1 :=
  (extract_append_high (s23 ++ s22 ++ f1 ++ 0#1 ++ s15 ++ f2) ev 16 1 (by decide)).trans
    ((extract_append_high (s23 ++ s22 ++ f1 ++ 0#1 ++ s15) f2 6 1 (by decide)).trans
      ((extract_append_high (s23 ++ s22 ++ f1 ++ 0#1) s15 1 1 (by decide)).trans
        ((extract_append_low (s23 ++ s22 ++ f1) 0#1 0 1 (by decide)).trans (extract_all _))))

theorem eventValue_s15 : (eventValue s23 s22 f1 s15 f2 ev).extractLsb' 15 1 = s15 :=
  (extract_append_high (s23 ++ s22 ++ f1 ++ 0#1 ++ s15 ++ f2) ev 15 1 (by decide)).trans
    ((extract_append_high (s23 ++ s22 ++ f1 ++ 0#1 ++ s15) f2 5 1 (by decide)).trans
      ((extract_append_low (s23 ++ s22 ++ f1 ++ 0#1) s15 0 1 (by decide)).trans (extract_all _)))

theorem eventValue_f2 : (eventValue s23 s22 f1 s15 f2 ev).extractLsb' 10 5 = f2 :=
  (extract_append_high (s23 ++ s22 ++ f1 ++ 0#1 ++ s15 ++ f2) ev 10 5 (by decide)).trans
    ((extract_append_low (s23 ++ s22 ++ f1 ++ 0#1 ++ s15) f2 0 5 (by decide)).trans (extract_all _))

theorem eventValue_ev : (eventValue s23 s22 f1 s15 f2 ev).extractLsb' 0 10 = ev :=
  (extract_append_low (s23 ++ s22 ++ f1 ++ 0#1 ++ s15 ++ f2) ev 0 10 (by decide)).trans (extract_all _)

end

/-- The event value whose fields are the fields of `v` is `v`, when `v[16] = 0` (R68). -/
theorem eventValue_eta (v : Value) (h : v.extractLsb' 16 1 = 0#1) :
    eventValue (v.extractLsb' 23 1) (v.extractLsb' 22 1) (v.extractLsb' 17 5) (v.extractLsb' 15 1)
      (v.extractLsb' 10 5) (v.extractLsb' 0 10) = v := by
  have h1 : v.extractLsb' 23 1 ++ v.extractLsb' 22 1 = v.extractLsb' 22 2 := extract_append_extract v 22 1 1
  have h2 : v.extractLsb' 22 2 ++ v.extractLsb' 17 5 = v.extractLsb' 17 7 := extract_append_extract v 17 2 5
  have h3 : v.extractLsb' 17 7 ++ v.extractLsb' 16 1 = v.extractLsb' 16 8 := extract_append_extract v 16 7 1
  have h4 : v.extractLsb' 16 8 ++ v.extractLsb' 15 1 = v.extractLsb' 15 9 := extract_append_extract v 15 8 1
  have h5 : v.extractLsb' 15 9 ++ v.extractLsb' 10 5 = v.extractLsb' 10 14 := extract_append_extract v 10 9 5
  have h6 : v.extractLsb' 10 14 ++ v.extractLsb' 0 10 = v := append_extract (m := 14) (n := 10) v
  rw [h] at h3
  calc _ = v.extractLsb' 10 14 ++ v.extractLsb' 0 10 := ?_
    _ = v := h6
  rw [← h5, ← h4, ← h3, ← h2, ← h1]
  rfl

/-! ### The fields of a power-cycle value (R69) -/

section
variable (gv : BitVec 1) (g : BitVec 5) (av : BitVec 1) (a : BitVec 6)

theorem powerCycleValue_pattern : (powerCycleValue gv g av a).extractLsb' 13 11 = 0x7F7#11 :=
  (extract_append_high (0x7F7#11 ++ gv ++ g ++ av) a 13 11 (by decide)).trans
    ((extract_append_high (0x7F7#11 ++ gv ++ g) av 7 11 (by decide)).trans
      ((extract_append_high (0x7F7#11 ++ gv) g 6 11 (by decide)).trans
        ((extract_append_high 0x7F7#11 gv 1 11 (by decide)).trans (extract_all _))))

theorem powerCycleValue_gv : (powerCycleValue gv g av a).extractLsb' 12 1 = gv :=
  (extract_append_high (0x7F7#11 ++ gv ++ g ++ av) a 12 1 (by decide)).trans
    ((extract_append_high (0x7F7#11 ++ gv ++ g) av 6 1 (by decide)).trans
      ((extract_append_high (0x7F7#11 ++ gv) g 5 1 (by decide)).trans
        ((extract_append_low 0x7F7#11 gv 0 1 (by decide)).trans (extract_all _))))

theorem powerCycleValue_g : (powerCycleValue gv g av a).extractLsb' 7 5 = g :=
  (extract_append_high (0x7F7#11 ++ gv ++ g ++ av) a 7 5 (by decide)).trans
    ((extract_append_high (0x7F7#11 ++ gv ++ g) av 1 5 (by decide)).trans
      ((extract_append_low (0x7F7#11 ++ gv) g 0 5 (by decide)).trans (extract_all _)))

theorem powerCycleValue_av : (powerCycleValue gv g av a).extractLsb' 6 1 = av :=
  (extract_append_high (0x7F7#11 ++ gv ++ g ++ av) a 6 1 (by decide)).trans
    ((extract_append_low (0x7F7#11 ++ gv ++ g) av 0 1 (by decide)).trans (extract_all _))

theorem powerCycleValue_a : (powerCycleValue gv g av a).extractLsb' 0 6 = a :=
  (extract_append_low (0x7F7#11 ++ gv ++ g ++ av) a 0 6 (by decide)).trans (extract_all _)

end

/-- The power-cycle constant lies in the events: bit 16 of the value is 0 (R69, R132). -/
theorem powerCycleValue_selector (gv : BitVec 1) (g : BitVec 5) (av : BitVec 1) (a : BitVec 6) :
    (powerCycleValue gv g av a).extractLsb' 16 1 = 0#1 := by
  have h := extract_extract (powerCycleValue gv g av a) 13 11 3 1 (by decide)
  rw [powerCycleValue_pattern] at h
  exact h.symm.trans (by decide)

end Sys2Proof.Laws
end

