-- ==== Sys2Proof/Laws/State.lean ====
section
/-! SUPPORT. One lemma per field per update of the state and of the result bank, true by rfl, so that no proof unfolds a
record update. -/

namespace Sys2Proof.Machine

/-! ### `State.accept` -/

@[simp] theorem State.accept_ctx (s : State) (dc : Decoded) : (s.accept dc).ctx = dc.nextContext := rfl
@[simp] theorem State.accept_res (s : State) (dc : Decoded) : (s.accept dc).res = Res.accepted dc := rfl
@[simp] theorem State.accept_cfg (s : State) (dc : Decoded) : (s.accept dc).cfg = s.cfg := rfl
@[simp] theorem State.accept_input (s : State) (dc : Decoded) : (s.accept dc).input = s.input := rfl

/-! ### `State.reject` -/

@[simp] theorem State.reject_ctx (s : State) (e : ErrCode) : (s.reject e).ctx = s.ctx := rfl
@[simp] theorem State.reject_res (s : State) (e : ErrCode) : (s.reject e).res = Res.rejected e := rfl
@[simp] theorem State.reject_cfg (s : State) (e : ErrCode) : (s.reject e).cfg = s.cfg := rfl
@[simp] theorem State.reject_input (s : State) (e : ErrCode) : (s.reject e).input = s.input := rfl

/-! ### `State.idle` -/

@[simp] theorem State.idle_ctx (s : State) : s.idle.ctx = s.ctx := rfl
@[simp] theorem State.idle_res (s : State) : s.idle.res = s.res.quiet := rfl
@[simp] theorem State.idle_cfg (s : State) : s.idle.cfg = s.cfg := rfl
@[simp] theorem State.idle_input (s : State) : s.idle.input = s.input := rfl

/-! ### `State.loadCtx` -/

@[simp] theorem State.loadCtx_ctx (s : State) (c : Byte) : (s.loadCtx c).ctx = c := rfl
@[simp] theorem State.loadCtx_res (s : State) (c : Byte) : (s.loadCtx c).res = s.res.quiet := rfl
@[simp] theorem State.loadCtx_cfg (s : State) (c : Byte) : (s.loadCtx c).cfg = s.cfg := rfl
@[simp] theorem State.loadCtx_input (s : State) (c : Byte) : (s.loadCtx c).input = s.input := rfl

/-! ### `State.sessionReset` -/

@[simp] theorem State.sessionReset_ctx (s : State) : s.sessionReset.ctx = 0#8 := rfl
@[simp] theorem State.sessionReset_res (s : State) : s.sessionReset.res = Res.cleared := rfl
@[simp] theorem State.sessionReset_cfg (s : State) : s.sessionReset.cfg = s.cfg := rfl
@[simp] theorem State.sessionReset_input (s : State) : s.sessionReset.input = s.input := rfl

/-! ### `State.accept16` -/

@[simp] theorem State.accept16_ctx (s : State) (adr : AddrPart) (cmd : CmdPart) (ab op : Byte) : (s.accept16 adr cmd ab op).ctx = 0#8 := rfl
@[simp] theorem State.accept16_res (s : State) (adr : AddrPart) (cmd : CmdPart) (ab op : Byte) : (s.accept16 adr cmd ab op).res = Res.accepted (record16 adr cmd ab op) := rfl
@[simp] theorem State.accept16_cfg (s : State) (adr : AddrPart) (cmd : CmdPart) (ab op : Byte) : (s.accept16 adr cmd ab op).cfg = s.cfg := rfl
@[simp] theorem State.accept16_input (s : State) (adr : AddrPart) (cmd : CmdPart) (ab op : Byte) : (s.accept16 adr cmd ab op).input = s.input := rfl

/-! ### `State.accept24` -/

@[simp] theorem State.accept24_ctx (s : State) (adr : AddrPart) (cmd : CmdPart) (ab ib op : Byte) : (s.accept24 adr cmd ab ib op).ctx = s.ctx := rfl
@[simp] theorem State.accept24_res (s : State) (adr : AddrPart) (cmd : CmdPart) (ab ib op : Byte) : (s.accept24 adr cmd ab ib op).res = Res.accepted (record24 adr cmd ab ib op s.ctx) := rfl
@[simp] theorem State.accept24_cfg (s : State) (adr : AddrPart) (cmd : CmdPart) (ab ib op : Byte) : (s.accept24 adr cmd ab ib op).cfg = s.cfg := rfl
@[simp] theorem State.accept24_input (s : State) (adr : AddrPart) (cmd : CmdPart) (ab ib op : Byte) : (s.accept24 adr cmd ab ib op).input = s.input := rfl

/-! ### The result bank (Machine/Flags.lean) -/

@[simp] theorem Res.quiet_new (r : Res) : r.quiet.new = false := rfl
@[simp] theorem Res.quiet_valid (r : Res) : r.quiet.valid = r.valid := rfl
@[simp] theorem Res.quiet_err (r : Res) : r.quiet.err = r.err := rfl
@[simp] theorem Res.quiet_dc (r : Res) : r.quiet.dc = r.dc := rfl
@[simp] theorem Res.accepted_new (dc : Decoded) : (Res.accepted dc).new = true := rfl
@[simp] theorem Res.accepted_valid (dc : Decoded) : (Res.accepted dc).valid = true := rfl
@[simp] theorem Res.accepted_err (dc : Decoded) : (Res.accepted dc).err = .none := rfl
@[simp] theorem Res.accepted_dc (dc : Decoded) : (Res.accepted dc).dc = dc := rfl
@[simp] theorem Res.rejected_new (e : ErrCode) : (Res.rejected e).new = true := rfl
@[simp] theorem Res.rejected_valid (e : ErrCode) : (Res.rejected e).valid = false := rfl
@[simp] theorem Res.rejected_err (e : ErrCode) : (Res.rejected e).err = e := rfl
@[simp] theorem Res.rejected_dc (e : ErrCode) : (Res.rejected e).dc = Decoded.cleared := rfl
@[simp] theorem Res.cleared_new : Res.cleared.new = false := rfl
@[simp] theorem Res.cleared_valid : Res.cleared.valid = false := rfl
@[simp] theorem Res.cleared_err : Res.cleared.err = .none := rfl
@[simp] theorem Res.cleared_dc : Res.cleared.dc = Decoded.cleared := rfl

/-! ### `State.withFetchWord` -/

@[simp] theorem State.withFetchWord_ctx (s : State) (n w : Nat) : (s.withFetchWord n w).ctx = s.ctx := rfl
@[simp] theorem State.withFetchWord_res (s : State) (n w : Nat) : (s.withFetchWord n w).res = s.res := rfl
@[simp] theorem State.withFetchWord_cfg (s : State) (n w : Nat) : (s.withFetchWord n w).cfg = s.cfg := rfl
@[simp] theorem State.withFetchWord_input (s : State) (n w : Nat) :
    (s.withFetchWord n w).input = ⟨false, tableOpWord n w⟩ :: s.input := rfl

end Sys2Proof.Machine
end

