-- ==== Sys2Proof/Laws/Ops.lean ====
section
/-! SUPPORT. For each shared operation, once, everything it can do. -/

namespace Sys2Proof.Laws

open Sys2Proof.Machine

/-! ### The step -/

/-- While the host presents nothing, a step changes nothing. -/
theorem step_waiting (s : State) (h : s.input = []) : step s = .next s := by
  unfold step
  rw [h]

/-- A step with `rst = 1`. -/
theorem step_reset (s : State) (w : OpWord) (rest : List HostInput) (h : s.input = ⟨true, w⟩ :: rest) :
    step s = .next { s with input := rest }.sessionReset := by
  unfold step
  rw [h]
  rfl

/-- A step with `rst = 0` runs the decoded operation. -/
theorem step_operation (s : State) (w : OpWord) (rest : List HostInput) (h : s.input = ⟨false, w⟩ :: rest) :
    step s = exec (decode w) { s with input := rest } := by
  unfold step
  rw [h]
  rfl

/-- Everything a step can do: wait, reset, or run the decoded operation. -/
theorem step_cases (s : State) :
    (s.input = [] ∧ step s = .next s) ∨
    (∃ w rest, s.input = ⟨true, w⟩ :: rest ∧ step s = .next { s with input := rest }.sessionReset) ∨
    (∃ w rest, s.input = ⟨false, w⟩ :: rest ∧ step s = exec (decode w) { s with input := rest }) := by
  rcases h : s.input with _ | ⟨⟨rst, w⟩, rest⟩
  · exact .inl ⟨rfl, step_waiting s h⟩
  · cases rst with
    | true => exact .inr (.inl ⟨w, rest, rfl, step_reset s w rest h⟩)
    | false => exact .inr (.inr ⟨w, rest, rfl, step_operation s w rest h⟩)

/-! ### The table reads and the stages -/

/-- `G16.LUT`: a hit or a miss, and in both the frame is accepted. -/
theorem execG16Lut_cases (form : AddrForm) (op : Byte) (s : State) :
    (∃ e, memRead s.cfg.img .gear op = some e ∧
      execG16Lut form op s =
        .next (s.accept16 (formPart form) ⟨.gearNamed, op, .plain, .unaddressed⟩ form.byte op)) ∨
    (memRead s.cfg.img .gear op = none ∧
      execG16Lut form op s = .next (s.accept16 (formPart form) (CmdPart.bare .gearUndef) form.byte op)) := by
  unfold execG16Lut
  cases h : memRead s.cfg.img .gear op with
  | none => exact .inr ⟨rfl, rfl⟩
  | some e => exact .inl ⟨e, rfl, rfl⟩

/-- `G24.LUT`: a hit or a miss, and in both the frame is accepted. -/
theorem execG24Lut_cases (form : AddrForm) (ib op : Byte) (s : State) :
    (∃ e, memRead s.cfg.img .ctrl op = some e ∧
      execG24Lut form ib op s =
        .next (s.accept24 (formPart form) ⟨.ctrlNamed, op, .plain, .unaddressed⟩ form.byte ib op)) ∨
    (memRead s.cfg.img .ctrl op = none ∧
      execG24Lut form ib op s = .next (s.accept24 (formPart form) (CmdPart.bare .ctrlUndef) form.byte ib op)) := by
  unfold execG24Lut
  cases h : memRead s.cfg.img .ctrl op with
  | none => exact .inr ⟨rfl, rfl⟩
  | some e => exact .inl ⟨e, rfl, rfl⟩

/-- `S24.C1.LUT`: a hit with the entry's shape, or a miss, and in both the frame is accepted. -/
theorem execS24C1Lut_cases (ib op : Byte) (s : State) :
    (∃ e, memRead s.cfg.img .c1 ib = some e ∧
      execS24C1Lut ib op s =
        .next (s.accept24 (AddrPart.bare .special) ⟨.spcC1Named, ib, e.shape, .unaddressed⟩ 0xC1#8 ib op)) ∨
    (memRead s.cfg.img .c1 ib = none ∧
      execS24C1Lut ib op s =
        .next (s.accept24 (AddrPart.bare .special) (CmdPart.bare .spcC1Undef) 0xC1#8 ib op)) := by
  unfold execS24C1Lut
  cases h : memRead s.cfg.img .c1 ib with
  | none => exact .inr ⟨rfl, rfl⟩
  | some e => exact .inl ⟨e, rfl, rfl⟩

/-- In a family, base and low nibble make up the opcode byte. -/
theorem family_split (base op : Byte) (h : op &&& 0xF0#8 = base) :
    base + (op.extractLsb' 0 4).setWidth 8 = op := by
  subst h
  revert op
  decide

/-- The command stage of an addressed 16-bit frame: a family member, named by its base, or the table row. -/
theorem gearStage_cases (form : AddrForm) (op : Byte) (s : State) :
    (isFamily op = true ∧ gearStage form op s =
      .next (s.accept16 (formPart form) ⟨.gearCounted, op &&& 0xF0#8, .plain, .unaddressed⟩ form.byte op)) ∨
    (isFamily op = false ∧ gearStage form op s = execG16Lut form op s) := by
  have fam : ∀ b : Byte, op &&& 0xF0#8 = b →
      counted16 b form (op.extractLsb' 0 4) s =
        s.accept16 (formPart form) ⟨.gearCounted, op &&& 0xF0#8, .plain, .unaddressed⟩ form.byte op := by
    intro b h
    unfold counted16
    rw [family_split b op h, h]
  unfold gearStage
  by_cases h1 : op &&& 0xF0#8 = 0x10#8
  · refine .inl ⟨by simp [isFamily, h1], ?_⟩
    rw [if_pos h1]
    exact congrArg _ (fam _ h1)
  by_cases h2 : op &&& 0xF0#8 = 0x40#8
  · refine .inl ⟨by simp [isFamily, h2], ?_⟩
    rw [if_neg h1, if_pos h2]
    exact congrArg _ (fam _ h2)
  by_cases h3 : op &&& 0xF0#8 = 0x50#8
  · refine .inl ⟨by simp [isFamily, h3], ?_⟩
    rw [if_neg h1, if_neg h2, if_pos h3]
    exact congrArg _ (fam _ h3)
  by_cases h4 : op &&& 0xF0#8 = 0x60#8
  · refine .inl ⟨by simp [isFamily, h4], ?_⟩
    rw [if_neg h1, if_neg h2, if_neg h3, if_pos h4]
    exact congrArg _ (fam _ h4)
  by_cases h5 : op &&& 0xF0#8 = 0x70#8
  · refine .inl ⟨by simp [isFamily, h5], ?_⟩
    rw [if_neg h1, if_neg h2, if_neg h3, if_neg h4, if_pos h5]
    exact congrArg _ (fam _ h5)
  by_cases h6 : op &&& 0xF0#8 = 0xB0#8
  · refine .inl ⟨by simp [isFamily, h6], ?_⟩
    rw [if_neg h1, if_neg h2, if_neg h3, if_neg h4, if_neg h5, if_pos h6]
    exact congrArg _ (fam _ h6)
  · refine .inr ⟨by simp [isFamily, h1, h2, h3, h4, h5, h6], ?_⟩
    rw [if_neg h1, if_neg h2, if_neg h3, if_neg h4, if_neg h5, if_neg h6]

/-! ### Start-up -/

/-- Power-up answers the reset state with the configuration, or refuses an image that is none of this block's. -/
theorem powerUp_cases (cfg : Config) :
    (isConfiguration cfg.img = true ∧ State.powerUp cfg = .next { State.reset with cfg := cfg }) ∨
    (isConfiguration cfg.img = false ∧ State.powerUp cfg = .refused .notAConfiguration) := by
  unfold State.powerUp
  cases h : isConfiguration cfg.img with
  | true => exact .inl ⟨rfl, rfl⟩
  | false => exact .inr ⟨rfl, rfl⟩

end Sys2Proof.Laws
end

