-- ==== Sys2Proof/Laws/Memory.lean ====
section
/-! SUPPORT. The memory (the ROM image): its canonical form, that every operation of the block keeps it (the block has no
write, R43: each shared operation leaves the image as it was), and what a read answers. -/

namespace Sys2Proof.Laws

open Sys2Proof.Machine

/-- The tables of the reset state are in canonical form. -/
theorem reset_memory_wf : Memory.wf State.reset.cfg.img = true := by decide

/-- The image of the reset state is a configuration of this block (R255). Its evaluation by the kernel takes a while;
cite it. -/
theorem default_image_is_configuration : isConfiguration State.reset.cfg.img = true := by decide

/-- Every operation that changes `CTX` or `RES` keeps the memory's canonical form: it leaves the memory alone. -/
theorem ops_keep_memory_wf (s : State) (h : Memory.wf s.cfg.img = true) :
    (∀ dc, Memory.wf (s.accept dc).cfg.img = true) ∧ (∀ e, Memory.wf (s.reject e).cfg.img = true) ∧
    Memory.wf s.idle.cfg.img = true ∧ (∀ c, Memory.wf (s.loadCtx c).cfg.img = true) ∧
    Memory.wf s.sessionReset.cfg.img = true ∧
    (∀ adr cmd ab op, Memory.wf (s.accept16 adr cmd ab op).cfg.img = true) ∧
    (∀ adr cmd ab ib op, Memory.wf (s.accept24 adr cmd ab ib op).cfg.img = true) := by
  simp [h]

/-- A listed address reads as an entry of the table; an unlisted one is a miss. -/
theorem tableRead_mem {α : Type} (t : Table α) (a : Nat) (e : α) (h : tableRead t a = some e) : (a, e) ∈ t := by
  induction t with
  | nil => simp [tableRead] at h
  | cons hd tl ih =>
    obtain ⟨k, x⟩ := hd
    by_cases hk : k = a
    · subst hk
      simp [tableRead] at h
      simp [h]
    · simp [tableRead, hk] at h
      exact List.mem_cons_of_mem _ (ih h)

/-- In a table that rises from `lo`, no address below `lo` is listed. -/
theorem tableRead_below {α : Type} (t : Table α) (lo a : Nat) (h : risingFrom lo t = true) (ha : a < lo) :
    tableRead t a = none := by
  induction t generalizing lo with
  | nil => rfl
  | cons hd tl ih =>
    obtain ⟨k, x⟩ := hd
    simp only [risingFrom, Bool.and_eq_true, decide_eq_true_eq] at h
    have hk : k ≠ a := by omega
    simp [tableRead, hk, ih (k + 1) h.2 (by omega)]

/-- In canonical form the listed entry is the one that is read: no address is listed twice. -/
theorem tableRead_of_mem {α : Type} (t : Table α) (lo : Nat) (h : risingFrom lo t = true) (a : Nat) (e : α)
    (hm : (a, e) ∈ t) : tableRead t a = some e := by
  induction t generalizing lo with
  | nil => cases hm
  | cons hd tl ih =>
    obtain ⟨k, x⟩ := hd
    simp only [risingFrom, Bool.and_eq_true, decide_eq_true_eq] at h
    rcases List.mem_cons.mp hm with heq | htl
    · cases heq
      simp [tableRead]
    · have hread := ih (k + 1) h.2 htl
      by_cases hk : k = a
      · subst hk
        rw [tableRead_below tl (k + 1) k h.2 (by omega)] at hread
        cases hread
      · simp [tableRead, hk, hread]

end Sys2Proof.Laws
end

