-- ==== Sys2Proof/Laws/PerInstr.lean ====
section
/-! SUPPORT. Statements about every instruction as syntax, one lemma per constructor. `EncodeHitsRow`: the word an
instruction is encoded by matches the mask and match of its row of the opcode table (R81); the row is found by its
mnemonic. -/

namespace Sys2Proof.Laws

/-- A word of three parts matches a row part by part. -/
theorem and_eq_of_parts {m n : Nat} {x1 x2 x3 : BitVec m} {y1 y2 y3 : BitVec n} (hx : x1 &&& x2 = x3)
    (hy : y1 &&& y2 = y3) : (x1 ++ y1) &&& (x2 ++ y2) = x3 ++ y3 := by
  subst hx hy
  exact BitVec.and_append

/-- A FRAME word matches a row when its length and its value do. -/
theorem frameWord_hits {len : Byte} {v : Value} {mask pattern : OpWord} (ml pl : Byte) (mv pv : Value)
    (hm : mask = 3#2 ++ ml ++ mv) (hp : pattern = 1#2 ++ pl ++ pv) (hl : len &&& ml = pl) (hv : v &&& mv = pv) :
    (frameWord len v &&& mask == pattern) = true := by
  subst hm hp
  exact beq_iff_eq.mpr (and_eq_of_parts (and_eq_of_parts (by decide) hl) hv)

/-- A value of three bytes matches a mask byte by byte. -/
theorem bytes_and {a b c : Byte} {mv pv : Value} (ma mb mc pa pb pc : Byte) (hm : mv = ma ++ mb ++ mc)
    (hp : pv = pa ++ pb ++ pc) (ha : a &&& ma = pa) (hb : b &&& mb = pb) (hc : c &&& mc = pc) :
    (a ++ b ++ c) &&& mv = pv := by
  subst hm hp
  exact and_eq_of_parts (and_eq_of_parts ha hb) hc

/-- An event value matches a mask over its selector bits. -/
theorem eventValue_and {s23 s22 s15 : BitVec 1} {f1 f2 : BitVec 5} {ev : BitVec 10} {mv pv : Value}
    (m23 m22 m15 p23 p22 p15 : BitVec 1) (hm : mv = m23 ++ m22 ++ 0#5 ++ 1#1 ++ m15 ++ 0#5 ++ 0#10)
    (hp : pv = p23 ++ p22 ++ 0#5 ++ 0#1 ++ p15 ++ 0#5 ++ 0#10) (h23 : s23 &&& m23 = p23) (h22 : s22 &&& m22 = p22)
    (h15 : s15 &&& m15 = p15) : eventValue s23 s22 f1 s15 f2 ev &&& mv = pv := by
  subst hm hp
  exact and_eq_of_parts (and_eq_of_parts (and_eq_of_parts (and_eq_of_parts (and_eq_of_parts (and_eq_of_parts h23 h22)
    (BitVec.and_zero)) (by decide)) h15) (BitVec.and_zero)) (BitVec.and_zero)

/-- A power-cycle value matches the power-cycle mask. -/
theorem powerCycleValue_and (gv : BitVec 1) (g : BitVec 5) (av : BitVec 1) (a : BitVec 6) {mv pv : Value}
    (hm : mv = 0x7FF#11 ++ 0#1 ++ 0#5 ++ 0#1 ++ 0#6) (hp : pv = 0x7F7#11 ++ 0#1 ++ 0#5 ++ 0#1 ++ 0#6) :
    powerCycleValue gv g av a &&& mv = pv := by
  subst hm hp
  exact and_eq_of_parts (and_eq_of_parts (and_eq_of_parts (and_eq_of_parts (by decide) (BitVec.and_zero))
    (BitVec.and_zero)) (BitVec.and_zero)) (BitVec.and_zero)

/-- A stage row looks at the opcode byte alone. -/
theorem stageRow_hits {mask pattern : OpWord} (hi : BitVec 16) {low : Byte}
    (hm : mask = 0#2 ++ 0#8 ++ (0#16 ++ 0xF0#8)) (hp : pattern = 0#2 ++ 0#8 ++ (0#16 ++ low)) (op : Byte)
    (h : op &&& 0xF0#8 = low) : (frameWord 16#8 (hi ++ op) &&& mask == pattern) = true := by
  subst hm hp
  exact beq_iff_eq.mpr (and_eq_of_parts (and_eq_of_parts (by decide) (by decide))
    (and_eq_of_parts BitVec.and_zero h))

/-- What is masked away, and what is kept whole. -/
theorem byte_and_zero (b : Byte) : b &&& 0#8 = 0#8 := BitVec.and_zero

theorem byte_and_full (b : Byte) : b &&& 0xFF#8 = b := BitVec.and_allOnes

namespace EncodeHitsRow

/-- The encoding of `i` matches the row of the opcode table that has its mnemonic. -/
def Statement (i : Instr) : Prop :=
  ∃ r ∈ topRows ++ g16Rows ++ g24Rows, r.mnemonic = i.mnemonic ∧ r.hits (encode i) = true

theorem nop : Statement .nop :=
  ⟨⟨"NOP", 0x300000000#34, 0x000000000#34, none⟩, by decide, rfl, 
    by decide⟩

theorem loadCtx (c : Byte) : Statement (.loadCtx c) :=
  ⟨⟨"LOAD_CTX", 0x300000000#34, 0x200000000#34, none⟩, by decide, rfl, 
    by
    unfold OpcodeRow.hits encode
    decide +revert⟩

theorem sreset : Statement .sreset :=
  ⟨⟨"SRESET", 0x300000000#34, 0x300000000#34, none⟩, by decide, rfl, 
    by decide⟩

theorem f8Data (data : Byte) : Statement (.f8Data data) :=
  ⟨⟨"F8.DATA", 0x3FFFFFF00#34, 0x108000000#34, none⟩, by decide, rfl, 
    frameWord_hits 0xFF#8 0x08#8 0xFFFF00#24 0x000000#24 (by decide) (by decide) (by decide)
    (bytes_and 0xFF#8 0xFF#8 0#8 0#8 0#8 0#8 (a := 0#8) (b := 0#8) (c := data) (by decide) (by decide) (by decide) (by decide) (byte_and_zero _))⟩

theorem f8ErrRange (v : Value) : Statement (.f8ErrRange v) :=
  ⟨⟨"F8.ERR_RANGE", 0x3FF000000#34, 0x108000000#34, none⟩, by decide, rfl, 
    frameWord_hits 0xFF#8 0x08#8 0#24 0#24 (by decide) (by decide) (by decide) BitVec.and_zero⟩

theorem a16Short (a : BitVec 6) (op : Byte) : Statement (.a16Short a op) :=
  ⟨⟨"A16.SHORT", 0x3FFFF8100#34, 0x110000100#34, some .g16⟩, by decide, rfl, 
    frameWord_hits 0xFF#8 0x10#8 0xFF8100#24 0x000100#24 (by decide) (by decide) (by decide)
    (bytes_and 0xFF#8 0x81#8 0x00#8 0x00#8 0x01#8 0x00#8 (by decide) (by decide) (by decide) (by decide +revert) (byte_and_zero _))⟩

theorem a16Group (x : BitVec 1) (g : BitVec 4) (op : Byte) : Statement (.a16Group x g op) :=
  ⟨⟨"A16.GROUP", 0x3FFFFC100#34, 0x110008100#34, some .g16⟩, by decide, rfl, 
    frameWord_hits 0xFF#8 0x10#8 0xFFC100#24 0x008100#24 (by decide) (by decide) (by decide)
    (bytes_and 0xFF#8 0xC1#8 0x00#8 0x00#8 0x81#8 0x00#8 (by decide) (by decide) (by decide) (by decide +revert) (byte_and_zero _))⟩

theorem a16BcUnaddr (op : Byte) : Statement (.a16BcUnaddr op) :=
  ⟨⟨"A16.BC_UNADDR", 0x3FFFFFF00#34, 0x11000FD00#34, some .g16⟩, by decide, rfl, 
    frameWord_hits 0xFF#8 0x10#8 0xFFFF00#24 0x00FD00#24 (by decide) (by decide) (by decide)
    (bytes_and 0xFF#8 0xFF#8 0x00#8 0x00#8 0xFD#8 0x00#8 (by decide) (by decide) (by decide) (by decide) (byte_and_zero _))⟩

theorem a16Bc (op : Byte) : Statement (.a16Bc op) :=
  ⟨⟨"A16.BC", 0x3FFFFFF00#34, 0x11000FF00#34, some .g16⟩, by decide, rfl, 
    frameWord_hits 0xFF#8 0x10#8 0xFFFF00#24 0x00FF00#24 (by decide) (by decide) (by decide)
    (bytes_and 0xFF#8 0xFF#8 0x00#8 0x00#8 0xFF#8 0x00#8 (by decide) (by decide) (by decide) (by decide) (byte_and_zero _))⟩

theorem a16UnmatchedC0 (op : Byte) : Statement (.a16UnmatchedC0 op) :=
  ⟨⟨"A16.UNMATCHED.C0", 0x3FFFFFF00#34, 0x11000C000#34, none⟩, by decide, rfl, 
    frameWord_hits 0xFF#8 0x10#8 0xFFFF00#24 0x00C000#24 (by decide) (by decide) (by decide)
    (bytes_and 0xFF#8 0xFF#8 0x00#8 0x00#8 0xC0#8 0x00#8 (by decide) (by decide) (by decide) (by decide) (byte_and_zero _))⟩

theorem a16Special (n : BitVec 5) (op : Byte) : Statement (.a16Special n op) :=
  ⟨⟨"A16.SPECIAL", 0x3FFFFE000#34, 0x11000C000#34, none⟩, by decide, rfl, 
    frameWord_hits 0xFF#8 0x10#8 0xFFE000#24 0x00C000#24 (by decide) (by decide) (by decide)
    (bytes_and 0xFF#8 0xE0#8 0x00#8 0x00#8 0xC0#8 0x00#8 (by decide) (by decide) (by decide) (by decide +revert) (byte_and_zero _))⟩

theorem a16UnmatchedE0 (op : Byte) : Statement (.a16UnmatchedE0 op) :=
  ⟨⟨"A16.UNMATCHED.E0", 0x3FFFFFF00#34, 0x11000E000#34, none⟩, by decide, rfl, 
    frameWord_hits 0xFF#8 0x10#8 0xFFFF00#24 0x00E000#24 (by decide) (by decide) (by decide)
    (bytes_and 0xFF#8 0xFF#8 0x00#8 0x00#8 0xE0#8 0x00#8 (by decide) (by decide) (by decide) (by decide) (byte_and_zero _))⟩

theorem a16ReservedE (n : BitVec 4) (op : Byte) : Statement (.a16ReservedE n op) :=
  ⟨⟨"A16.RESERVED.E", 0x3FFFFF000#34, 0x11000E000#34, none⟩, by decide, rfl, 
    frameWord_hits 0xFF#8 0x10#8 0xFFF000#24 0x00E000#24 (by decide) (by decide) (by decide)
    (bytes_and 0xFF#8 0xF0#8 0x00#8 0x00#8 0xE0#8 0x00#8 (by decide) (by decide) (by decide) (by decide +revert) (byte_and_zero _))⟩

theorem a16UnmatchedF0 (op : Byte) : Statement (.a16UnmatchedF0 op) :=
  ⟨⟨"A16.UNMATCHED.F0", 0x3FFFFFF00#34, 0x11000F000#34, none⟩, by decide, rfl, 
    frameWord_hits 0xFF#8 0x10#8 0xFFFF00#24 0x00F000#24 (by decide) (by decide) (by decide)
    (bytes_and 0xFF#8 0xFF#8 0x00#8 0x00#8 0xF0#8 0x00#8 (by decide) (by decide) (by decide) (by decide) (byte_and_zero _))⟩

theorem a16ReservedF1 (n : BitVec 3) (op : Byte) : Statement (.a16ReservedF1 n op) :=
  ⟨⟨"A16.RESERVED.F1", 0x3FFFFF800#34, 0x11000F000#34, none⟩, by decide, rfl, 
    frameWord_hits 0xFF#8 0x10#8 0xFFF800#24 0x00F000#24 (by decide) (by decide) (by decide)
    (bytes_and 0xFF#8 0xF8#8 0x00#8 0x00#8 0xF0#8 0x00#8 (by decide) (by decide) (by decide) (by decide +revert) (byte_and_zero _))⟩

theorem a16ReservedF8 (n : BitVec 2) (op : Byte) : Statement (.a16ReservedF8 n op) :=
  ⟨⟨"A16.RESERVED.F8", 0x3FFFFFC00#34, 0x11000F800#34, none⟩, by decide, rfl, 
    frameWord_hits 0xFF#8 0x10#8 0xFFFC00#24 0x00F800#24 (by decide) (by decide) (by decide)
    (bytes_and 0xFF#8 0xFC#8 0x00#8 0x00#8 0xF8#8 0x00#8 (by decide) (by decide) (by decide) (by decide +revert) (byte_and_zero _))⟩

theorem a16Unmatched (ab : Byte) (op : Byte) : Statement (.a16Unmatched ab op) :=
  ⟨⟨"A16.UNMATCHED", 0x3FFFF0000#34, 0x110000000#34, none⟩, by decide, rfl, 
    frameWord_hits 0xFF#8 0x10#8 0xFF0000#24 0x000000#24 (by decide) (by decide) (by decide)
    (bytes_and 0xFF#8 0x00#8 0x00#8 0x00#8 0x00#8 0x00#8 (by decide) (by decide) (by decide) (byte_and_zero _) (byte_and_zero _))⟩

theorem f16ErrRange (v : Value) : Statement (.f16ErrRange v) :=
  ⟨⟨"F16.ERR_RANGE", 0x3FF000000#34, 0x110000000#34, none⟩, by decide, rfl, 
    frameWord_hits 0xFF#8 0x10#8 0#24 0#24 (by decide) (by decide) (by decide) BitVec.and_zero⟩

theorem e24PowerCycle (gv : BitVec 1) (g : BitVec 5) (av : BitVec 1) (a : BitVec 6) : Statement (.e24PowerCycle gv g av a) :=
  ⟨⟨"E24.POWER_CYCLE", 0x3FFFFE000#34, 0x118FEE000#34, none⟩, by decide, rfl, 
    frameWord_hits 0xFF#8 0x18#8 0xFFE000#24 0xFEE000#24 (by decide) (by decide) (by decide) (powerCycleValue_and gv g av a (by decide) (by decide))⟩

theorem e24Reserved (f1 f2 : BitVec 5) (ev : BitVec 10) : Statement (.e24Reserved f1 f2 ev) :=
  ⟨⟨"E24.RESERVED", 0x3FFC18000#34, 0x118C08000#34, none⟩, by decide, rfl, 
    frameWord_hits 0xFF#8 0x18#8 0xC18000#24 0xC08000#24 (by decide) (by decide) (by decide)
    (eventValue_and 1#1 1#1 1#1 1#1 1#1 1#1 (by decide) (by decide) (by decide) (by decide) (by decide))⟩

theorem e24InstanceGroup (f1 f2 : BitVec 5) (ev : BitVec 10) : Statement (.e24InstanceGroup f1 f2 ev) :=
  ⟨⟨"E24.INSTANCE_GROUP", 0x3FFC18000#34, 0x118C00000#34, none⟩, by decide, rfl, 
    frameWord_hits 0xFF#8 0x18#8 0xC18000#24 0xC00000#24 (by decide) (by decide) (by decide)
    (eventValue_and 1#1 1#1 1#1 1#1 1#1 0#1 (by decide) (by decide) (by decide) (by decide) (by decide))⟩

theorem e24Instance (f1 f2 : BitVec 5) (ev : BitVec 10) : Statement (.e24Instance f1 f2 ev) :=
  ⟨⟨"E24.INSTANCE", 0x3FFC18000#34, 0x118808000#34, none⟩, by decide, rfl, 
    frameWord_hits 0xFF#8 0x18#8 0xC18000#24 0x808000#24 (by decide) (by decide) (by decide)
    (eventValue_and 1#1 1#1 1#1 1#1 0#1 1#1 (by decide) (by decide) (by decide) (by decide) (by decide))⟩

theorem e24DeviceGroup (f1 f2 : BitVec 5) (ev : BitVec 10) : Statement (.e24DeviceGroup f1 f2 ev) :=
  ⟨⟨"E24.DEVICE_GROUP", 0x3FFC18000#34, 0x118800000#34, none⟩, by decide, rfl, 
    frameWord_hits 0xFF#8 0x18#8 0xC18000#24 0x800000#24 (by decide) (by decide) (by decide)
    (eventValue_and 1#1 1#1 1#1 1#1 0#1 0#1 (by decide) (by decide) (by decide) (by decide) (by decide))⟩

theorem e24DeviceInstance (s22 : BitVec 1) (f1 f2 : BitVec 5) (ev : BitVec 10) : Statement (.e24DeviceInstance s22 f1 f2 ev) :=
  ⟨⟨"E24.DEVICE_INSTANCE", 0x3FF818000#34, 0x118008000#34, none⟩, by decide, rfl, 
    frameWord_hits 0xFF#8 0x18#8 0x818000#24 0x008000#24 (by decide) (by decide) (by decide)
    (eventValue_and 1#1 0#1 1#1 0#1 0#1 1#1 (by decide) (by decide) (by decide) (BitVec.and_zero) (by decide))⟩

theorem e24Device (s22 : BitVec 1) (f1 f2 : BitVec 5) (ev : BitVec 10) : Statement (.e24Device s22 f1 f2 ev) :=
  ⟨⟨"E24.DEVICE", 0x3FF818000#34, 0x118000000#34, none⟩, by decide, rfl, 
    frameWord_hits 0xFF#8 0x18#8 0x818000#24 0x000000#24 (by decide) (by decide) (by decide)
    (eventValue_and 1#1 0#1 1#1 0#1 0#1 0#1 (by decide) (by decide) (by decide) (BitVec.and_zero) (by decide))⟩

theorem a24Short (a : BitVec 6) (ib op : Byte) : Statement (.a24Short a ib op) :=
  ⟨⟨"A24.SHORT", 0x3FF810000#34, 0x118010000#34, some .g24⟩, by decide, rfl, 
    frameWord_hits 0xFF#8 0x18#8 0x810000#24 0x010000#24 (by decide) (by decide) (by decide)
    (bytes_and 0x81#8 0x00#8 0x00#8 0x01#8 0x00#8 0x00#8 (by decide) (by decide) (by decide +revert) (byte_and_zero _) (byte_and_zero _))⟩

theorem a24Group (x : BitVec 1) (g : BitVec 4) (ib op : Byte) : Statement (.a24Group x g ib op) :=
  ⟨⟨"A24.GROUP", 0x3FFC10000#34, 0x118810000#34, some .g24⟩, by decide, rfl, 
    frameWord_hits 0xFF#8 0x18#8 0xC10000#24 0x810000#24 (by decide) (by decide) (by decide)
    (bytes_and 0xC1#8 0x00#8 0x00#8 0x81#8 0x00#8 0x00#8 (by decide) (by decide) (by decide +revert) (byte_and_zero _) (byte_and_zero _))⟩

theorem a24BcUnaddr (ib op : Byte) : Statement (.a24BcUnaddr ib op) :=
  ⟨⟨"A24.BC_UNADDR", 0x3FFFF0000#34, 0x118FD0000#34, some .g24⟩, by decide, rfl, 
    frameWord_hits 0xFF#8 0x18#8 0xFF0000#24 0xFD0000#24 (by decide) (by decide) (by decide)
    (bytes_and 0xFF#8 0x00#8 0x00#8 0xFD#8 0x00#8 0x00#8 (by decide) (by decide) (by decide) (byte_and_zero _) (byte_and_zero _))⟩

theorem a24Bc (ib op : Byte) : Statement (.a24Bc ib op) :=
  ⟨⟨"A24.BC", 0x3FFFF0000#34, 0x118FF0000#34, some .g24⟩, by decide, rfl, 
    frameWord_hits 0xFF#8 0x18#8 0xFF0000#24 0xFF0000#24 (by decide) (by decide) (by decide)
    (bytes_and 0xFF#8 0x00#8 0x00#8 0xFF#8 0x00#8 0x00#8 (by decide) (by decide) (by decide) (byte_and_zero _) (byte_and_zero _))⟩

theorem s24InitialiseUnaddressed : Statement .s24InitialiseUnaddressed :=
  ⟨⟨"S24.INITIALISE.UNADDRESSED", 0x3FFFFFFFF#34, 0x118C101FF#34, none⟩, by decide, rfl, 
    frameWord_hits 0xFF#8 0x18#8 0xFFFFFF#24 0xC101FF#24 (by decide) (by decide) (by decide)
    (bytes_and 0xFF#8 0xFF#8 0xFF#8 0xC1#8 0x01#8 0xFF#8 (by decide) (by decide) (by decide) (by decide) (by decide))⟩

theorem s24InitialiseAll : Statement .s24InitialiseAll :=
  ⟨⟨"S24.INITIALISE.ALL", 0x3FFFFFFFF#34, 0x118C10100#34, none⟩, by decide, rfl, 
    frameWord_hits 0xFF#8 0x18#8 0xFFFFFF#24 0xC10100#24 (by decide) (by decide) (by decide)
    (bytes_and 0xFF#8 0xFF#8 0xFF#8 0xC1#8 0x01#8 0x00#8 (by decide) (by decide) (by decide) (by decide) (by decide))⟩

theorem s24InitialiseOne (k : BitVec 6) : Statement (.s24InitialiseOne k) :=
  ⟨⟨"S24.INITIALISE.ONE", 0x3FFFFFF81#34, 0x118C10101#34, none⟩, by decide, rfl, 
    frameWord_hits 0xFF#8 0x18#8 0xFFFF81#24 0xC10101#24 (by decide) (by decide) (by decide)
    (bytes_and 0xFF#8 0xFF#8 0x81#8 0xC1#8 0x01#8 0x01#8 (by decide) (by decide) (by decide) (by decide) (by decide +revert))⟩

theorem s24InitialiseNone (op : Byte) : Statement (.s24InitialiseNone op) :=
  ⟨⟨"S24.INITIALISE.NONE", 0x3FFFFFF00#34, 0x118C10100#34, none⟩, by decide, rfl, 
    frameWord_hits 0xFF#8 0x18#8 0xFFFF00#24 0xC10100#24 (by decide) (by decide) (by decide)
    (bytes_and 0xFF#8 0xFF#8 0x00#8 0xC1#8 0x01#8 0x00#8 (by decide) (by decide) (by decide) (by decide) (byte_and_zero _))⟩

theorem s24C1Lut (ib op : Byte) : Statement (.s24C1Lut ib op) :=
  ⟨⟨"S24.C1.LUT", 0x3FFFF0000#34, 0x118C10000#34, none⟩, by decide, rfl, 
    frameWord_hits 0xFF#8 0x18#8 0xFF0000#24 0xC10000#24 (by decide) (by decide) (by decide)
    (bytes_and 0xFF#8 0x00#8 0x00#8 0xC1#8 0x00#8 0x00#8 (by decide) (by decide) (by decide) (byte_and_zero _) (byte_and_zero _))⟩

theorem s24DirectWrite (ib op : Byte) : Statement (.s24DirectWrite ib op) :=
  ⟨⟨"S24.DIRECT_WRITE", 0x3FFFF0000#34, 0x118C50000#34, none⟩, by decide, rfl, 
    frameWord_hits 0xFF#8 0x18#8 0xFF0000#24 0xC50000#24 (by decide) (by decide) (by decide)
    (bytes_and 0xFF#8 0x00#8 0x00#8 0xC5#8 0x00#8 0x00#8 (by decide) (by decide) (by decide) (byte_and_zero _) (byte_and_zero _))⟩

theorem s24Dtr1Dtr0 (ib op : Byte) : Statement (.s24Dtr1Dtr0 ib op) :=
  ⟨⟨"S24.DTR1_DTR0", 0x3FFFF0000#34, 0x118C70000#34, none⟩, by decide, rfl, 
    frameWord_hits 0xFF#8 0x18#8 0xFF0000#24 0xC70000#24 (by decide) (by decide) (by decide)
    (bytes_and 0xFF#8 0x00#8 0x00#8 0xC7#8 0x00#8 0x00#8 (by decide) (by decide) (by decide) (byte_and_zero _) (byte_and_zero _))⟩

theorem s24Dtr2Dtr1 (ib op : Byte) : Statement (.s24Dtr2Dtr1 ib op) :=
  ⟨⟨"S24.DTR2_DTR1", 0x3FFFF0000#34, 0x118C90000#34, none⟩, by decide, rfl, 
    frameWord_hits 0xFF#8 0x18#8 0xFF0000#24 0xC90000#24 (by decide) (by decide) (by decide)
    (bytes_and 0xFF#8 0x00#8 0x00#8 0xC9#8 0x00#8 0x00#8 (by decide) (by decide) (by decide) (byte_and_zero _) (byte_and_zero _))⟩

theorem s24Unknown (n : BitVec 4) (ib op : Byte) : Statement (.s24Unknown n ib op) :=
  ⟨⟨"S24.UNKNOWN", 0x3FFE10000#34, 0x118C10000#34, none⟩, by decide, rfl, 
    frameWord_hits 0xFF#8 0x18#8 0xE10000#24 0xC10000#24 (by decide) (by decide) (by decide)
    (bytes_and 0xE1#8 0x00#8 0x00#8 0xC1#8 0x00#8 0x00#8 (by decide) (by decide) (by decide +revert) (byte_and_zero _) (byte_and_zero _))⟩

theorem a24ReservedE (n : BitVec 3) (ib op : Byte) : Statement (.a24ReservedE n ib op) :=
  ⟨⟨"A24.RESERVED.E", 0x3FFF10000#34, 0x118E10000#34, none⟩, by decide, rfl, 
    frameWord_hits 0xFF#8 0x18#8 0xF10000#24 0xE10000#24 (by decide) (by decide) (by decide)
    (bytes_and 0xF1#8 0x00#8 0x00#8 0xE1#8 0x00#8 0x00#8 (by decide) (by decide) (by decide +revert) (byte_and_zero _) (byte_and_zero _))⟩

theorem a24ReservedF1 (n : BitVec 2) (ib op : Byte) : Statement (.a24ReservedF1 n ib op) :=
  ⟨⟨"A24.RESERVED.F1", 0x3FFF90000#34, 0x118F10000#34, none⟩, by decide, rfl, 
    frameWord_hits 0xFF#8 0x18#8 0xF90000#24 0xF10000#24 (by decide) (by decide) (by decide)
    (bytes_and 0xF9#8 0x00#8 0x00#8 0xF1#8 0x00#8 0x00#8 (by decide) (by decide) (by decide +revert) (byte_and_zero _) (byte_and_zero _))⟩

theorem a24ReservedF9 (n : BitVec 1) (ib op : Byte) : Statement (.a24ReservedF9 n ib op) :=
  ⟨⟨"A24.RESERVED.F9", 0x3FFFD0000#34, 0x118F90000#34, none⟩, by decide, rfl, 
    frameWord_hits 0xFF#8 0x18#8 0xFD0000#24 0xF90000#24 (by decide) (by decide) (by decide)
    (bytes_and 0xFD#8 0x00#8 0x00#8 0xF9#8 0x00#8 0x00#8 (by decide) (by decide) (by decide +revert) (byte_and_zero _) (byte_and_zero _))⟩

theorem fErrLen (len : Byte) : Statement (.fErrLen len) :=
  ⟨⟨"F.ERR_LEN", 0x300000000#34, 0x100000000#34, none⟩, by decide, rfl, 
    frameWord_hits 0x00#8 0x00#8 0#24 0#24 (by decide) (by decide) (byte_and_zero _) (by decide)⟩

theorem g16GotoScene (form : AddrForm) (k : BitVec 4) : Statement (.g16GotoScene form k) :=
  ⟨⟨"G16.GOTO_SCENE", 0x0000000F0#34, 0x000000010#34, none⟩, by decide, rfl, 
    stageRow_hits (0#8 ++ form.byte) (low := 0x10#8) (by decide) (by decide) (1#4 ++ k) (by decide +revert)⟩

theorem g16SetScene (form : AddrForm) (k : BitVec 4) : Statement (.g16SetScene form k) :=
  ⟨⟨"G16.SET_SCENE", 0x0000000F0#34, 0x000000040#34, none⟩, by decide, rfl, 
    stageRow_hits (0#8 ++ form.byte) (low := 0x40#8) (by decide) (by decide) (4#4 ++ k) (by decide +revert)⟩

theorem g16RemoveScene (form : AddrForm) (k : BitVec 4) : Statement (.g16RemoveScene form k) :=
  ⟨⟨"G16.REMOVE_SCENE", 0x0000000F0#34, 0x000000050#34, none⟩, by decide, rfl, 
    stageRow_hits (0#8 ++ form.byte) (low := 0x50#8) (by decide) (by decide) (5#4 ++ k) (by decide +revert)⟩

theorem g16AddGroup (form : AddrForm) (k : BitVec 4) : Statement (.g16AddGroup form k) :=
  ⟨⟨"G16.ADD_GROUP", 0x0000000F0#34, 0x000000060#34, none⟩, by decide, rfl, 
    stageRow_hits (0#8 ++ form.byte) (low := 0x60#8) (by decide) (by decide) (6#4 ++ k) (by decide +revert)⟩

theorem g16RemoveGroup (form : AddrForm) (k : BitVec 4) : Statement (.g16RemoveGroup form k) :=
  ⟨⟨"G16.REMOVE_GROUP", 0x0000000F0#34, 0x000000070#34, none⟩, by decide, rfl, 
    stageRow_hits (0#8 ++ form.byte) (low := 0x70#8) (by decide) (by decide) (7#4 ++ k) (by decide +revert)⟩

theorem g16QuerySceneLevel (form : AddrForm) (k : BitVec 4) : Statement (.g16QuerySceneLevel form k) :=
  ⟨⟨"G16.QUERY_SCENE_LEVEL", 0x0000000F0#34, 0x0000000B0#34, none⟩, by decide, rfl, 
    stageRow_hits (0#8 ++ form.byte) (low := 0xB0#8) (by decide) (by decide) (11#4 ++ k) (by decide +revert)⟩

theorem g16Lut (form : AddrForm) (op : Byte) : Statement (.g16Lut form op) :=
  ⟨⟨"G16.LUT", 0x000000000#34, 0x000000000#34, none⟩, by decide, rfl, 
    beq_iff_eq.mpr BitVec.and_zero⟩

theorem g24Lut (form : AddrForm) (ib op : Byte) : Statement (.g24Lut form ib op) :=
  ⟨⟨"G24.LUT", 0x000000000#34, 0x000000000#34, none⟩, by decide, rfl, 
    beq_iff_eq.mpr BitVec.and_zero⟩

end EncodeHitsRow

end Sys2Proof.Laws
end

