-- ==== Sys2Proof/Tests/Slice0.lean ====
section
/-! SUPPORT. The model's own tests. Every expected result is the spec's: a format of R60 to R70 written out bit by bit, an
example of a rule, a vector V<n> or a program P<n> of spec/95_test_vectors.md, an example of R241. Then one witness for
each statement that has hypotheses, at boundary values of its clauses. -/

namespace Sys2Proof.Tests

open Sys2Proof.Machine

/-! ### Helpers -/

/-- The state after one step on the operation word `w`, from the reset state with context `ctx`. -/
def after (ctx : Byte) (w : OpWord) : Option State :=
  match step ({ State.reset with ctx := ctx }.presenting w) with
  | .next t => some t
  | _ => none

/-- The state a step that answers one leads to. -/
def nextOf (s : State) : Option State :=
  match step s with
  | .next t => some t
  | _ => none

/-- Address kind and fields, command kind, `tmpl` and context after a step: the columns of the vectors of spec 95. -/
structure Seen where
  akind : AddrKind
  af1   : Nat
  af2   : Nat
  ckind : CmdKind
  tmpl  : Nat
  ctx   : Nat
  deriving DecidableEq, Repr

/-- Those columns after one step from the reset state with context `ctx`. -/
def seen (ctx : Byte) (w : OpWord) : Option Seen :=
  (after ctx w).map (fun t => ⟨t.res.dc.akind, t.res.dc.af1.toNat, t.res.dc.af2.toNat, t.res.dc.ckind,
    t.res.dc.tmpl.toNat, t.ctx.toNat⟩)

/-- The two strings after the step. -/
def texts (w : OpWord) : Option (Text × Text) := (after 0#8 w).bind State.text

/-- An image with nothing but the six family bases: the least configuration (R31). -/
def leastImage : Image :=
  { gear := [(0x10, "A"), (0x40, "B"), (0x50, "C"), (0x60, "D"), (0x70, "E"), (0xB0, "F")], ctrl := [], c1 := [] }

/-- A state whose record and flags are not the reset ones: the start state of program P1. -/
def busy : State :=
  let dc : Decoded :=
    { lc := .w24, akind := .bc, af1 := 0#6, af1v := false, af2 := 0#6, af2v := false, ckind := .ctrlNamed,
      tmpl := 0x34#8, shape := .plain, isub := .unaddressed, ab := 0xFF#8, ib := 0x00#8, op := 0x34#8,
      nextContext := 0x33#8 }
  { State.reset with ctx := 0x33#8, res := ⟨true, true, .none, dc⟩ }

/-! ### Well-formedness: an operand value an earlier row takes is refused -/

theorem test_ill_formed_f8ErrRange :
    (Instr.f8ErrRange 0x0000FF#24).wellFormed = false := by decide

theorem test_ill_formed_a16Special :
    (Instr.a16Special 0#5 0x00#8).wellFormed = false := by decide

theorem test_ill_formed_a16ReservedE :
    (Instr.a16ReservedE 0#4 0x00#8).wellFormed = false := by decide

theorem test_ill_formed_a16ReservedF1 :
    (Instr.a16ReservedF1 0#3 0x00#8).wellFormed = false := by decide

theorem test_ill_formed_f16ErrRange :
    (Instr.f16ErrRange 0x00FFFF#24).wellFormed = false := by decide

theorem test_ill_formed_e24Reserved :
    (Instr.e24Reserved 31#5 24#5 0#10).wellFormed = false := by decide

theorem test_ill_formed_s24C1Lut :
    (Instr.s24C1Lut 0x01#8 0x00#8).wellFormed = false := by decide

theorem test_ill_formed_a16Unmatched :
    (Instr.a16Unmatched 0x01#8 0#8).wellFormed = false ∧ (Instr.a16Unmatched 0xC0#8 0#8).wellFormed = false ∧
      (Instr.a16Unmatched 0xFC#8 0#8).wellFormed = true := by decide

theorem test_ill_formed_s24InitialiseNone :
    (Instr.s24InitialiseNone 0xFF#8).wellFormed = false ∧ (Instr.s24InitialiseNone 0x00#8).wellFormed = false ∧
      (Instr.s24InitialiseNone 0x7F#8).wellFormed = false ∧ (Instr.s24InitialiseNone 0x81#8).wellFormed = true :=
    by decide

theorem test_ill_formed_s24Unknown :
    (Instr.s24Unknown 0#4 0#8 0#8).wellFormed = false ∧ (Instr.s24Unknown 2#4 0#8 0#8).wellFormed = false ∧
      (Instr.s24Unknown 3#4 0#8 0#8).wellFormed = false ∧ (Instr.s24Unknown 4#4 0#8 0#8).wellFormed = false :=
    by decide

theorem test_ill_formed_fErrLen :
    (Instr.fErrLen 8#8).wellFormed = false ∧ (Instr.fErrLen 16#8).wellFormed = false ∧
      (Instr.fErrLen 24#8).wellFormed = false ∧ (Instr.fErrLen 0#8).wellFormed = true := by decide

theorem test_ill_formed_g16Lut :
    (Instr.g16Lut .bc 0x1F#8).wellFormed = false ∧ (Instr.g16Lut .bc 0xB0#8).wellFormed = false ∧
      (Instr.g16Lut .bc 0x20#8).wellFormed = true := by decide

/-! ### Decoding: the words of every row, written out as `op_len_v[23:16]_v[15:8]_v[7:0]` (R60) -/

/-- ignored bits set (R62). -/
theorem test_decode_nop :
    decode 0b00_10101011_11001101_11101111_00010010#34 = .nop := by decide

/-- R70, ignored bits set (R62). -/
theorem test_decode_loadCtx :
    decode 0b10_10101011_11001101_11101111_00000111#34 = .loadCtx 0x07#8 := by decide

/-- R70. -/
theorem test_decode_sreset :
    decode 0b11_00000000_00000000_00000000_00000001#34 = .sreset := by decide

/-- R65. -/
theorem test_decode_f8Data :
    decode 0b01_00001000_00000000_00000000_00111100#34 = .f8Data 0x3C#8 := by decide

/-- R261's example. -/
theorem test_decode_f8ErrRange :
    decode 0b01_00001000_00000000_00000001_00000000#34 = .f8ErrRange 0x000100#24 := by decide

/-- R66: `0aaaaaa1`, V19. -/
theorem test_decode_a16Short :
    decode 0b01_00010000_00000000_00001011_00010101#34 = .a16Short 5#6 0x15#8 := by decide

/-- R66: `10xgggg1`, V14. -/
theorem test_decode_a16Group :
    decode 0b01_00010000_00000000_10100101_11111111#34 = .a16Group 1#1 2#4 0xFF#8 := by decide

/-- V15. -/
theorem test_decode_a16BcUnaddr :
    decode 0b01_00010000_00000000_11111101_00000000#34 = .a16BcUnaddr 0x00#8 := by decide

/-- V16. -/
theorem test_decode_a16Bc :
    decode 0b01_00010000_00000000_11111111_00000000#34 = .a16Bc 0x00#8 := by decide

/-- V46. -/
theorem test_decode_a16UnmatchedC0 :
    decode 0b01_00010000_00000000_11000000_00000000#34 = .a16UnmatchedC0 0x00#8 := by decide

/-- V48. -/
theorem test_decode_a16Special :
    decode 0b01_00010000_00000000_11000001_00001000#34 = .a16Special 1#5 0x08#8 := by decide

/-- V51. -/
theorem test_decode_a16UnmatchedE0 :
    decode 0b01_00010000_00000000_11100000_00000000#34 = .a16UnmatchedE0 0x00#8 := by decide

/-- R162's example. -/
theorem test_decode_a16ReservedE :
    decode 0b01_00010000_00000000_11100011_00000000#34 = .a16ReservedE 3#4 0x00#8 := by decide

/-- R120. -/
theorem test_decode_a16UnmatchedF0 :
    decode 0b01_00010000_00000000_11110000_00000000#34 = .a16UnmatchedF0 0x00#8 := by decide

/-- R117: 0xF7. -/
theorem test_decode_a16ReservedF1 :
    decode 0b01_00010000_00000000_11110111_10000000#34 = .a16ReservedF1 7#3 0x80#8 := by decide

/-- R117: 0xFB. -/
theorem test_decode_a16ReservedF8 :
    decode 0b01_00010000_00000000_11111011_00000001#34 = .a16ReservedF8 3#2 0x01#8 := by decide

/-- R164's example. -/
theorem test_decode_a16Unmatched :
    decode 0b01_00010000_00000000_11111110_10000000#34 = .a16Unmatched 0xFE#8 0x80#8 := by decide

/-- R261's example. -/
theorem test_decode_f16ErrRange :
    decode 0b01_00010000_00000001_00000000_00000000#34 = .f16ErrRange 0x010000#24 := by decide

/-- R69, V85. -/
theorem test_decode_e24PowerCycle :
    decode 0b01_00011000_11111110_11110001_01000101#34 = .e24PowerCycle 1#1 2#5 1#1 5#6 := by decide

/-- V79: `v[13] = 0`, not power-cycle. -/
theorem test_decode_e24Reserved :
    decode 0b01_00011000_11111110_11000000_00000000#34 = .e24Reserved 31#5 16#5 0#10 := by decide

/-- R68, V75. -/
theorem test_decode_e24InstanceGroup :
    decode 0b01_00011000_11001010_00001100_00000101#34 = .e24InstanceGroup 5#5 3#5 5#10 := by decide

/-- V73. -/
theorem test_decode_e24Instance :
    decode 0b01_00011000_10001010_10001100_00000101#34 = .e24Instance 5#5 3#5 5#10 := by decide

/-- V70. -/
theorem test_decode_e24DeviceGroup :
    decode 0b01_00011000_10001010_00001100_00000101#34 = .e24DeviceGroup 5#5 3#5 5#10 := by decide

/-- V68. -/
theorem test_decode_e24DeviceInstance :
    decode 0b01_00011000_00001010_10001100_00000101#34 = .e24DeviceInstance 0#1 5#5 3#5 5#10 := by decide

/-- V63 with a payload. -/
theorem test_decode_e24Device :
    decode 0b01_00011000_01000000_00000000_00000101#34 = .e24Device 1#1 0#5 0#5 5#10 := by decide

/-- R67, V94. -/
theorem test_decode_a24Short :
    decode 0b01_00011000_00001011_11111111_00000000#34 = .a24Short 5#6 0xFF#8 0x00#8 := by decide

/-- V97. -/
theorem test_decode_a24Group :
    decode 0b01_00011000_10100101_00000000_00110000#34 = .a24Group 1#1 2#4 0x00#8 0x30#8 := by decide

/-- V99. -/
theorem test_decode_a24BcUnaddr :
    decode 0b01_00011000_11111101_00000000_00000000#34 = .a24BcUnaddr 0x00#8 0x00#8 := by decide

/-- V100. -/
theorem test_decode_a24Bc :
    decode 0b01_00011000_11111111_00000000_00110100#34 = .a24Bc 0x00#8 0x34#8 := by decide

/-- V108. -/
theorem test_decode_s24InitialiseUnaddressed :
    decode 0b01_00011000_11000001_00000001_11111111#34 = .s24InitialiseUnaddressed := by decide

/-- V109. -/
theorem test_decode_s24InitialiseAll :
    decode 0b01_00011000_11000001_00000001_00000000#34 = .s24InitialiseAll := by decide

/-- V111. -/
theorem test_decode_s24InitialiseOne :
    decode 0b01_00011000_11000001_00000001_00001011#34 = .s24InitialiseOne 5#6 := by decide

/-- V115. -/
theorem test_decode_s24InitialiseNone :
    decode 0b01_00011000_11000001_00000001_10000001#34 = .s24InitialiseNone 0x81#8 := by decide

/-- V123. -/
theorem test_decode_s24C1Lut :
    decode 0b01_00011000_11000001_00110000_01000010#34 = .s24C1Lut 0x30#8 0x42#8 := by decide

/-- V130. -/
theorem test_decode_s24DirectWrite :
    decode 0b01_00011000_11000101_00010010_00110100#34 = .s24DirectWrite 0x12#8 0x34#8 := by decide

/-- V132. -/
theorem test_decode_s24Dtr1Dtr0 :
    decode 0b01_00011000_11000111_00010010_00110100#34 = .s24Dtr1Dtr0 0x12#8 0x34#8 := by decide

/-- V133. -/
theorem test_decode_s24Dtr2Dtr1 :
    decode 0b01_00011000_11001001_10101011_11001101#34 = .s24Dtr2Dtr1 0xAB#8 0xCD#8 := by decide

/-- V135. -/
theorem test_decode_s24Unknown :
    decode 0b01_00011000_11001101_00010010_00110100#34 = .s24Unknown 6#4 0x12#8 0x34#8 := by decide

/-- R204's example. -/
theorem test_decode_a24ReservedE :
    decode 0b01_00011000_11100011_00000000_00000000#34 = .a24ReservedE 1#3 0x00#8 0x00#8 := by decide

/-- R204: 0xF7. -/
theorem test_decode_a24ReservedF1 :
    decode 0b01_00011000_11110111_00000001_00000010#34 = .a24ReservedF1 3#2 0x01#8 0x02#8 := by decide

/-- R204: 0xFB. -/
theorem test_decode_a24ReservedF9 :
    decode 0b01_00011000_11111011_00000000_11111111#34 = .a24ReservedF9 1#1 0x00#8 0xFF#8 := by decide

/-- R260's example. -/
theorem test_decode_fErrLen :
    decode 0b01_00001100_00000000_00001010_10111100#34 = .fErrLen 12#8 := by decide

/-- V19. -/
theorem test_decode_g16GotoScene :
    decodeStage 0b01_00010000_00000000_00001011_00010101#34 = some (.g16GotoScene (.short 5#6) 5#4) := by decide

/-- R155's example. -/
theorem test_decode_g16SetScene :
    decodeStage 0b01_00010000_00000000_00001011_01001111#34 = some (.g16SetScene (.short 5#6) 15#4) := by decide

/-- R156's example. -/
theorem test_decode_g16RemoveScene :
    decodeStage 0b01_00010000_00000000_10000101_01010000#34 = some (.g16RemoveScene (.group 0#1 2#4) 0#4) :=
    by decide

/-- R157's example. -/
theorem test_decode_g16AddGroup :
    decodeStage 0b01_00010000_00000000_00000001_01100011#34 = some (.g16AddGroup (.short 0#6) 3#4) := by decide

/-- V27. -/
theorem test_decode_g16RemoveGroup :
    decodeStage 0b01_00010000_00000000_11111101_01111111#34 = some (.g16RemoveGroup .bcUnaddr 15#4) := by decide

/-- R159's example. -/
theorem test_decode_g16QuerySceneLevel :
    decodeStage 0b01_00010000_00000000_01111111_10110001#34 = some (.g16QuerySceneLevel (.short 63#6) 1#4) :=
    by decide

/-- V38: just above a family. -/
theorem test_decode_g16Lut :
    decodeStage 0b01_00010000_00000000_11111111_11000000#34 = some (.g16Lut .bc 0xC0#8) := by decide

/-- V94. -/
theorem test_decode_g24Lut :
    decodeStage 0b01_00011000_00001011_11111111_00000000#34 = some (.g24Lut (.short 5#6) 0xFF#8 0x00#8) := by decide

/-- Rows without a `next` (R81): a 16-bit special byte, a 24-bit special command. -/
theorem test_no_stage_row :
    decodeStage 0b01_00010000_00000000_11000001_00001000#34 = none ∧
      decodeStage 0b01_00011000_11000101_00010010_00110100#34 = none := by decide

/-- The host's view: a top row's word, a word too long to be an operation word, a stage row's opcode byte. -/
theorem test_table_words :
    decodeTableWord 40 0x11000FF00 = some (.a16Bc 0x00#8) ∧ decodeTableWord 40 0x400000000 = none ∧
      decodeTableWord 8 0x1F = some (.g16GotoScene .bc 15#4) := by decide

/-- `step` runs the word `withFetchWord` presents as the first operation after reset, and consumes it (V16). -/
theorem test_kernel_evaluates_step :
    (nextOf (State.reset.withFetchWord 40 0x11000FF00)).map (fun t => (t.res.dc.akind, t.res.dc.ckind, t.input)) =
      some (.bc, .gearNamed, []) := by decide

/-- The same for a stage row's word (V25). -/
theorem test_kernel_evaluates_stage_step :
    (nextOf (State.reset.withFetchWord 8 0x6F)).map (fun t => (t.res.dc.ckind, t.res.dc.tmpl)) =
      some (.gearCounted, 0x60#8) := by decide

/-! ### Encoding: the words of R85 and R86, in hexadecimal as the spec writes them -/

theorem test_assemble :
    assemble (.f16 0x0B15#16) = 0x110000B15#34 ∧ assemble (.frame 12#8 0x000ABC#24) = 0x10C000ABC#34 ∧
      assemble (.loadctx 0x07#8) = 0x200000007#34 ∧ assemble .sreset = 0x300000000#34 ∧
      assemble (asmPower 1#1 2#5 1#1 5#6) = 0x118FEF145#34 ∧
      assemble (asmEvent 1#1 1#1 5#5 0#1 3#5 5#10) = 0x118CA0C05#34 ∧
      assemble (.f8 0x3C#8) = encode (.f8Data 0x3C#8) ∧ assemble .nop = encode .nop := by decide

/-! ### One step: address kind, fields, command kind, `tmpl`, context after (the vectors of spec 95) -/

/-- V3. -/
theorem test_step_f8Data :
    seen 0x05#8 0x10800007F#34 = some ⟨.none, 0, 0, .data8, 0x00, 0x05⟩ := by decide

/-- V7. -/
theorem test_step_a16Short :
    seen 0x03#8 0x110007F00#34 = some ⟨.short, 63, 0, .gearNamed, 0x00, 0x00⟩ := by decide

/-- V14. -/
theorem test_step_a16Group :
    seen 0x00#8 0x11000A5FF#34 = some ⟨.group, 2, 0, .gearNamed, 0xFF, 0x00⟩ := by decide

/-- V33. -/
theorem test_step_a16BcUnaddr :
    seen 0x00#8 0x11000FD0F#34 = some ⟨.bcUnaddr, 0, 0, .gearUndef, 0x00, 0x00⟩ := by decide

/-- V16. -/
theorem test_step_a16Bc :
    seen 0x07#8 0x11000FF00#34 = some ⟨.bc, 0, 0, .gearNamed, 0x00, 0x00⟩ := by decide

/-- V46. -/
theorem test_step_a16UnmatchedC0 :
    seen 0x09#8 0x11000C000#34 = some ⟨.unmatched, 0, 0, .unmatched, 0x00, 0x00⟩ := by decide

/-- V49. -/
theorem test_step_a16Special :
    seen 0x09#8 0x11000C200#34 = some ⟨.special, 0, 0, .spc16Unknown, 0x00, 0x00⟩ := by decide

/-- V51. -/
theorem test_step_a16UnmatchedE0 :
    seen 0x09#8 0x11000E000#34 = some ⟨.unmatched, 0, 0, .unmatched, 0x00, 0x00⟩ := by decide

/-- V52. -/
theorem test_step_a16ReservedE :
    seen 0x09#8 0x11000E100#34 = some ⟨.reserved, 0, 0, .reserved, 0x00, 0x00⟩ := by decide

/-- V43. -/
theorem test_step_a16Unmatched :
    seen 0x09#8 0x110007E12#34 = some ⟨.unmatched, 0, 0, .unmatched, 0x00, 0x00⟩ := by decide

/-- R120. -/
theorem test_step_a16UnmatchedF0 :
    seen 0x09#8 0x11000F000#34 = some ⟨.unmatched, 0, 0, .unmatched, 0x00, 0x00⟩ := by decide

/-- R120. -/
theorem test_step_a16ReservedF1 :
    seen 0x09#8 0x11000F100#34 = some ⟨.reserved, 0, 0, .reserved, 0x00, 0x00⟩ := by decide

/-- R120. -/
theorem test_step_a16ReservedF8 :
    seen 0x09#8 0x11000F800#34 = some ⟨.reserved, 0, 0, .reserved, 0x00, 0x00⟩ := by decide

/-- R204. -/
theorem test_step_a24ReservedE :
    seen 0x06#8 0x118EF0000#34 = some ⟨.reserved, 0, 0, .reserved, 0x00, 0x06⟩ := by decide

/-- R204. -/
theorem test_step_a24ReservedF1 :
    seen 0x06#8 0x118F10000#34 = some ⟨.reserved, 0, 0, .reserved, 0x00, 0x06⟩ := by decide

/-- R204. -/
theorem test_step_a24ReservedF9 :
    seen 0x06#8 0x118F90000#34 = some ⟨.reserved, 0, 0, .reserved, 0x00, 0x06⟩ := by decide

/-- V102. -/
theorem test_step_g24Lut :
    seen 0x06#8 0x118FF0093#34 = some ⟨.bc, 0, 0, .ctrlUndef, 0x00, 0x06⟩ := by decide

/-- V88. -/
theorem test_step_e24PowerCycle :
    seen 0x04#8 0x118FEFFFF#34 = some ⟨.powerCycle, 31, 63, .powerCycle, 0x00, 0x04⟩ := by decide

/-- V89: value bits set, both fields absent. -/
theorem test_step_e24PowerCycle_absent :
    seen 0x04#8 0x118FEEFBF#34 = some ⟨.powerCycle, 0, 0, .powerCycle, 0x00, 0x04⟩ := by decide

/-- V80. -/
theorem test_step_e24Reserved :
    seen 0x04#8 0x118FEDFFF#34 = some ⟨.evReserved, 0, 0, .eventReserved, 0x00, 0x04⟩ := by decide

/-- V76. -/
theorem test_step_e24InstanceGroup :
    seen 0x04#8 0x118FE7FFF#34 = some ⟨.evInstanceGroup, 31, 31, .event, 0x00, 0x04⟩ := by decide

/-- V73. -/
theorem test_step_e24Instance :
    seen 0x04#8 0x1188A8C05#34 = some ⟨.evInstance, 5, 3, .event, 0x00, 0x04⟩ := by decide

/-- V71. -/
theorem test_step_e24DeviceGroup :
    seen 0x04#8 0x118BE7FFF#34 = some ⟨.evDeviceGroup, 31, 31, .event, 0x00, 0x04⟩ := by decide

/-- V65. -/
theorem test_step_e24DeviceInstance :
    seen 0x04#8 0x1187EFFFF#34 = some ⟨.evDeviceInstance, 31, 31, .event, 0x00, 0x04⟩ := by decide

/-- V64. -/
theorem test_step_e24Device :
    seen 0x04#8 0x1180A0C05#34 = some ⟨.evDevice, 5, 3, .event, 0x00, 0x04⟩ := by decide

/-- V95. -/
theorem test_step_a24Short :
    seen 0x06#8 0x1187F0010#34 = some ⟨.short, 63, 0, .ctrlNamed, 0x10, 0x06⟩ := by decide

/-- V98. -/
theorem test_step_a24Group :
    seen 0x06#8 0x118BF0092#34 = some ⟨.group, 15, 0, .ctrlNamed, 0x92, 0x06⟩ := by decide

/-- V99. -/
theorem test_step_a24BcUnaddr :
    seen 0x06#8 0x118FD0000#34 = some ⟨.bcUnaddr, 0, 0, .ctrlNamed, 0x00, 0x06⟩ := by decide

/-- V104. -/
theorem test_step_a24Bc :
    seen 0x06#8 0x118FF0095#34 = some ⟨.bc, 0, 0, .ctrlUndef, 0x00, 0x06⟩ := by decide

/-- V123. -/
theorem test_step_s24C1Lut_hit :
    seen 0x02#8 0x118C13042#34 = some ⟨.special, 0, 0, .spcC1Named, 0x30, 0x02⟩ := by decide

/-- V128. -/
theorem test_step_s24C1Lut_miss :
    seen 0x02#8 0x118C1FF00#34 = some ⟨.special, 0, 0, .spcC1Undef, 0x00, 0x02⟩ := by decide

/-- V130. -/
theorem test_step_s24DirectWrite :
    seen 0x02#8 0x118C51234#34 = some ⟨.special, 0, 0, .spcDirectWrite, 0x00, 0x02⟩ := by decide

/-- V132. -/
theorem test_step_s24Dtr1Dtr0 :
    seen 0x02#8 0x118C71234#34 = some ⟨.special, 0, 0, .spcDtr1Dtr0, 0x00, 0x02⟩ := by decide

/-- V133. -/
theorem test_step_s24Dtr2Dtr1 :
    seen 0x02#8 0x118C9ABCD#34 = some ⟨.special, 0, 0, .spcDtr2Dtr1, 0x00, 0x02⟩ := by decide

/-- V136. -/
theorem test_step_s24Unknown :
    seen 0x02#8 0x118DFFFFF#34 = some ⟨.special, 0, 0, .spcUnknown, 0x00, 0x02⟩ := by decide

/-- V18. -/
theorem test_step_g16GotoScene :
    seen 0x00#8 0x11000FF1F#34 = some ⟨.bc, 0, 0, .gearCounted, 0x10, 0x00⟩ := by decide

/-- V20. -/
theorem test_step_g16SetScene :
    seen 0x00#8 0x11000FF40#34 = some ⟨.bc, 0, 0, .gearCounted, 0x40, 0x00⟩ := by decide

/-- V23. -/
theorem test_step_g16RemoveScene :
    seen 0x00#8 0x11000FF5A#34 = some ⟨.bc, 0, 0, .gearCounted, 0x50, 0x00⟩ := by decide

/-- V25. -/
theorem test_step_g16AddGroup :
    seen 0x00#8 0x11000FF6F#34 = some ⟨.bc, 0, 0, .gearCounted, 0x60, 0x00⟩ := by decide

/-- V26. -/
theorem test_step_g16RemoveGroup :
    seen 0x00#8 0x110008570#34 = some ⟨.group, 2, 0, .gearCounted, 0x70, 0x00⟩ := by decide

/-- V29. -/
theorem test_step_g16QuerySceneLevel :
    seen 0x00#8 0x11000FFBF#34 = some ⟨.bc, 0, 0, .gearCounted, 0xB0, 0x00⟩ := by decide

/-- V37. -/
theorem test_step_g16Lut :
    seen 0x00#8 0x11000FFAF#34 = some ⟨.bc, 0, 0, .gearUndef, 0x00, 0x00⟩ := by decide

/-- V108, V109, V112, V116. -/
theorem test_step_initialise :
    ((after 2#8 0x118C101FF#34).map (fun t => t.res.dc.isub), (after 2#8 0x118C10100#34).map (fun t => t.res.dc.isub),
      (after 2#8 0x118C1017F#34).map (fun t => t.res.dc.isub), (after 2#8 0x118C101FD#34).map (fun t => t.res.dc.isub)) =
      (some .unaddressed, some .all, some .one, some .noneResponds) := by decide

/-- R260, R93, with `CTX = 0x05`. -/
theorem test_step_fErrLen :
    (after 5#8 0x10C000ABC#34).map (fun t => (t.ctx, t.res.new, t.res.valid, t.res.err)) = some (5#8, true, false, .len) :=
    by decide

/-- R261, with `CTX = 0x05`. -/
theorem test_step_f8ErrRange :
    (after 5#8 0x108000100#34).map (fun t => (t.ctx, t.res.new, t.res.valid, t.res.err)) = some (5#8, true, false, .range) :=
    by decide

/-- R261, with `CTX = 0x05`. -/
theorem test_step_f16ErrRange :
    (after 5#8 0x110010000#34).map (fun t => (t.ctx, t.res.new, t.res.valid, t.res.err)) = some (5#8, true, false, .range) :=
    by decide

/-- R91, from the start state of P1. -/
theorem test_step_nop :
    (nextOf (busy.presenting 0x000000000#34)).map (fun t => (t.ctx, t.res.new, t.res.valid, t.res.dc.op)) =
      some (0x33#8, false, true, 0x34#8) := by decide

/-- R94, from the start state of P1. -/
theorem test_step_loadCtx :
    (nextOf (busy.presenting 0x200000007#34)).map (fun t => (t.ctx, t.res.new, t.res.valid, t.res.dc.op)) =
      some (0x07#8, false, true, 0x34#8) := by decide

/-- R95, step 1 of P1, from the start state of P1. -/
theorem test_step_sreset :
    (nextOf (busy.presenting 0x300000000#34)).map (fun t => (t.ctx, t.res.new, t.res.valid, t.res.dc.op)) =
      some (0x00#8, false, false, 0x00#8) := by decide

/-- R280: a step with `rst = 1` from a busy state. -/
theorem test_step_reset_input :
    (nextOf { busy with input := [⟨true, 0x11000FF00#34⟩] }).map (fun t => (t.ctx, t.res.new, t.res.valid, t.res.dc.op)) =
      some (0#8, false, false, 0#8) := by decide

/-! ### Texts (R241 and the vectors of spec 95) -/

/-- R241. -/
theorem test_text_data :
    texts 0x10800007F#34 = some ("              ".toList, "DATA 0x7F".toList) := by decide

/-- R241. -/
theorem test_text_gear_named :
    texts 0x11000FF00#34 = some ("BC            ".toList, "OFF".toList) := by decide

/-- R241. -/
theorem test_text_gear_counted :
    texts 0x110000B15#34 = some ("A05           ".toList, "GO TO SCENE 5".toList) := by decide

/-- R241. -/
theorem test_text_gear_undefined :
    texts 0x11000850F#34 = some ("G02           ".toList, "--- CODE 0x0F = 15 UNDEFINED CONTROL GEAR COMMAND".toList) :=
    by decide

/-- R241. -/
theorem test_text_reserved :
    texts 0x11000E300#34 = some ("              ".toList, "RESERVED".toList) := by decide

/-- R241. -/
theorem test_text_ctrl_named :
    texts 0x118FD0000#34 = some ("BC unadr. ".toList, "IDENTIFY DEVICE".toList) := by decide

/-- V104. -/
theorem test_text_ctrl_undefined :
    texts 0x118FF0095#34 = some ("BC        ".toList, "--- CODE 0x95 = 149 UNDEFINED CONTROL DEVICE COMMAND".toList) :=
    by decide

/-- V112. -/
theorem test_text_initialise_one :
    texts 0x118C1017F#34 = some ("          ".toList, "INITIALISE (G63)".toList) := by decide

/-- V121. -/
theorem test_text_c1_hexdec :
    texts 0x118C10512#34 = some ("          ".toList, "SEARCHADDRH 0x12 = 18".toList) := by decide

/-- V123. -/
theorem test_text_c1_hexdecbin :
    texts 0x118C13042#34 = some ("          ".toList, "DTR0 0x42 = 66 = 01000010b".toList) := by decide

/-- V127. -/
theorem test_text_c1_undefined :
    texts 0x118C10B00#34 = some ("          ".toList, "--- CODE 0x0B = 11 UNDEFINED CONTROL DEVICE SPECIAL COMMAND".toList) :=
    by decide

/-- R241. -/
theorem test_text_direct_write :
    texts 0x118C51234#34 = some ("          ".toList, "DIRECT WRITE MEMORY (DTR0,0x12) : 0x34".toList) := by decide

/-- V133. -/
theorem test_text_pair :
    texts 0x118C9ABCD#34 = some ("          ".toList, "DTR2:DTR1 (0xAB,0xCD)".toList) := by decide

/-- V134. -/
theorem test_text_unknown_special :
    texts 0x118CB0000#34 = some ("          ".toList, "--- CODE 0xCB = 203 UNKNOWN CONTROL DEVICE SPECIAL COMMAND".toList) :=
    by decide

/-- V48. -/
theorem test_text_special16 :
    texts 0x11000C108#34 = some ("              ".toList, "--- CODE 0xC1 = 193 UNDEFINED SPECIAL COMMAND".toList) :=
    by decide

/-- V42. -/
theorem test_text_unmatched :
    texts 0x110000000#34 = some ("              ".toList, "--- CODE 0x00 = 0 UNDEFINED ADDRESS".toList) := by decide

/-- V76. -/
theorem test_text_event :
    texts 0x118FE7FFF#34 = some ("IG31,T31  ".toList, "EVENT 0x3FF = 1023 = 001111111111b".toList) := by decide

/-- R241. -/
theorem test_text_power_cycle :
    texts 0x118FEF145#34 = some ("G02A05    ".toList, "POWER CYCLE EVENT".toList) := by decide

/-- R210: no text while `RES_VALID = 0`. -/
theorem test_text_none_after_rejection :
    texts 0x10C000ABC#34 = none ∧ State.reset.text = none := by decide

/-! ### The image -/

/-- R255. -/
theorem test_default_image_is_a_configuration :
    isConfiguration State.reset.cfg.img = true := Laws.default_image_is_configuration

/-- R252, R253, R254. -/
theorem test_default_image_sizes :
    (defaultGear.length, defaultCtrl.length, defaultC1.length) = (65, 69, 16) := by decide

/-- R31: the six bases are all an image must map. -/
theorem test_least_image_is_a_configuration :
    isConfiguration leastImage = true := by decide

/-! ### Witnesses: for each statement with hypotheses, states and operands that meet them, at boundary values -/

theorem witness_StepRunsDecodedOperation :
    (busy.presenting 0x11000FF00#34).input = ⟨false, 0x11000FF00#34⟩ :: [] := rfl

theorem witness_StepRunsTheStageRow :
    (busy.presenting 0x1180BFF00#34).input = ⟨false, 0x1180BFF00#34⟩ :: [] ∧
      decodeStage 0x1180BFF00#34 = some (.g24Lut (.short 5#6) 0xFF#8 0x00#8) := by decide

theorem witness_HardwareResetIgnoresTheWord :
    ({ busy with input := [⟨true, 0x11000FF00#34⟩] } : State).input = ⟨true, 0x11000FF00#34⟩ :: [] := rfl

theorem witness_NopClearsTheStrobeOnly :
    (busy.presenting 0x0FFFFFFFF#34).input = ⟨false, 0x0FFFFFFFF#34⟩ :: [] ∧ opSel 0x0FFFFFFFF#34 = 0#2 := by decide

theorem witness_LoadCtxSetsTheContext :
    (busy.presenting 0x2FFFFFF00#34).input = ⟨false, 0x2FFFFFF00#34⟩ :: [] ∧ opSel 0x2FFFFFF00#34 = 2#2 := by decide

theorem witness_SresetEqualsReset :
    (busy.presenting 0x3FFFFFFFF#34).input = ⟨false, 0x3FFFFFFFF#34⟩ :: [] ∧ opSel 0x3FFFFFFFF#34 = 3#2 := by decide

/-- Lengths 0, 7, 9, 15, 17, 23, 25, 255. -/
theorem witness_BadLengthIsRejected :
    ∀ w ∈ [0x100000000#34, 0x107FFFFFF#34, 0x109000000#34, 0x10F000000#34, 0x111000000#34, 0x117000000#34, 0x119000000#34,
        0x1FFFFFFFF#34],
      (busy.presenting w).input = ⟨false, w⟩ :: [] ∧ opSel w = 1#2 ∧
        (opLen w).toNat ≠ 8 ∧ (opLen w).toNat ≠ 16 ∧ (opLen w).toNat ≠ 24 :=
    by simp [State.presenting, opSel, opLen]

/-- The least and the greatest value out of range at each length. -/
theorem witness_ValueOutOfRangeIsRejected :
    (∀ w ∈ [0x108000100#34, 0x108FFFFFF#34, 0x110010000#34, 0x110FFFFFF#34],
        (busy.presenting w).input = ⟨false, w⟩ :: [] ∧ opSel w = 1#2 ∧
        ((opLen w).toNat = 8 ∧ 2 ^ 8 ≤ (opValue w).toNat ∨ (opLen w).toNat = 16 ∧ 2 ^ 16 ≤ (opValue w).toNat)) ∧
      (opLen 0x118FFFFFF#34).toNat = 24 := by simp [State.presenting, opSel, opLen, opValue]

/-- In and out of contract, at the bounds. -/
theorem witness_FrameAcceptedExactlyInContract :
    (∀ w ∈ [0x1080000FF#34, 0x11000FFFF#34, 0x118FFFFFF#34],
        (busy.presenting w).input = ⟨false, w⟩ :: [] ∧ opSel w = 1#2 ∧ inContract w) ∧
      (∀ w ∈ [0x108000100#34, 0x110010000#34, 0x119000000#34],
        (busy.presenting w).input = ⟨false, w⟩ :: [] ∧ opSel w = 1#2 ∧ ¬ inContract w) :=
    by simp [State.presenting, inContract, opSel, opLen, opValue]

theorem witness_DataFrameEchoesItsByte :
    opSel 0x1080000FF#34 = 1#2 ∧ opLen 0x1080000FF#34 = 8#8 ∧ (opValue 0x1080000FF#34).toNat < 2 ^ 8 := by decide

theorem witness_CountedFamiliesNameTheirBase :
    0x10#8 ∈ familyBases ∧ 0xB0#8 ∈ familyBases := by decide

theorem witness_BadLengthIsRejected_row :
    (Instr.fErrLen 0#8).wellFormed = true ∧ (Instr.fErrLen 25#8).wellFormed = true ∧ (Instr.fErrLen 255#8).wellFormed = true :=
    by decide

theorem witness_ValueOutOfRangeIsRejected_row :
    (Instr.f8ErrRange 0x000100#24).wellFormed = true ∧ (Instr.f8ErrRange 0xFFFFFF#24).wellFormed = true ∧
      (Instr.f16ErrRange 0x010000#24).wellFormed = true ∧ (Instr.f16ErrRange 0xFFFFFF#24).wellFormed = true :=
    by decide

/-- V39 and V30. -/
theorem witness_GearTableHitOrMiss :
    isFamily 0xFF#8 = false ∧ isFamily 0x0F#8 = false ∧ (memRead State.reset.cfg.img .gear 0xFF#8).isSome = true ∧ memRead State.reset.cfg.img .gear 0x0F#8 = none :=
    by decide

theorem witness_UnaddressedGearFrames :
    1#5 ≠ 0#5 ∧ 31#5 ≠ 0#5 ∧ 15#4 ≠ 0#4 ∧ 7#3 ≠ 0#3 ∧ isUnmatchedRest 0x00#8 = true ∧ isUnmatchedRest 0xBE#8 = true ∧
      isUnmatchedRest 0xFE#8 = true := by decide

theorem witness_ReservedEventHasNoFields :
    (Instr.e24Reserved 0#5 0#5 0#10).wellFormed = true ∧ (Instr.e24Reserved 31#5 23#5 0x3FF#10).wellFormed = true :=
    by decide

theorem witness_InitialiseSubCases :
    ∀ op ∈ [0x02#8, 0x80#8, 0x81#8, 0xFD#8, 0xFE#8], (Instr.s24InitialiseNone op).wellFormed = true := by decide

/-- V118 and V128. -/
theorem witness_SubCommandTableHitOrMiss :
    0x00#8 ≠ 0x01#8 ∧ memRead State.reset.cfg.img .c1 0x00#8 = some ⟨"TERMINATE", .plain⟩ ∧
      0xFF#8 ≠ 0x01#8 ∧ memRead State.reset.cfg.img .c1 0xFF#8 = none := by decide

theorem witness_OtherSpecialCommands :
    (Instr.s24Unknown 1#4 0#8 0#8).wellFormed = true ∧ (Instr.s24Unknown 15#4 0#8 0#8).wellFormed = true :=
    by decide

theorem witness_StepIsThePseudocode :
    ({ busy with input := [⟨true, 0x11000FF00#34⟩, ⟨false, 0x118FEF145#34⟩] } : State).input =
      ⟨true, 0x11000FF00#34⟩ :: [⟨false, 0x118FEF145#34⟩] := rfl

theorem witness_DecodeEncodeRoundTrip :
    (Instr.e24Reserved 31#5 23#5 0x3FF#10).isTop = true ∧ (Instr.e24Reserved 31#5 23#5 0x3FF#10).wellFormed = true :=
    by decide

theorem witness_StageDecodeEncodeRoundTrip :
    (Instr.g16Lut (.short 63#6) 0xC0#8).isTop = false ∧ (Instr.g16Lut (.short 63#6) 0xC0#8).wellFormed = true :=
    by decide

theorem witness_DecodeIsWellFormed :
    decodeStage 0x11000FF00#34 = some (.g16Lut .bc 0x00#8) := by decide

theorem witness_FrameWordIsRecovered :
    (opSel 0x1080000FF#34 = 1#2 ∧ opLen 0x1080000FF#34 = 8#8) ∧ (opSel 0x110FFFFFF#34 = 1#2 ∧ opLen 0x110FFFFFF#34 = 16#8) ∧
      (opSel 0x118FFFFFF#34 = 1#2 ∧ opLen 0x118FFFFFF#34 = 24#8) ∧
      decodeStage 0x118FFFFFF#34 = some (.g24Lut .bc 0xFF#8 0xFF#8) := by decide

theorem witness_DecoderIsTheOpcodeTable :
    (firstRow topRows 0x11000FF10#34).map (fun r => (r.mnemonic, r.next)) = some ("A16.BC", some .g16) ∧
      (firstRow topRows 0x118FFFF10#34).map (fun r => (r.mnemonic, r.next)) = some ("A24.BC", some .g24) ∧
      (firstRow topRows 0x000000000#34).map (fun r => (r.mnemonic, r.next)) = some ("NOP", none) := by decide

/-- Both sides of the one exception of R141 (V80 and V84). -/
theorem witness_EventRoundTrip :
    (24#5 : BitVec 5).extractLsb' 3 2 = 3#2 ∧ (23#5 : BitVec 5).extractLsb' 3 2 ≠ 3#2 ∧
      seen 4#8 (assemble (asmEvent 1#1 1#1 31#5 1#1 23#5 0#10)) = some ⟨.evReserved, 0, 0, .eventReserved, 0, 4⟩ ∧
      seen 4#8 (assemble (asmEvent 1#1 1#1 31#5 1#1 24#5 0#10)) = some ⟨.powerCycle, 0, 0, .powerCycle, 0, 4⟩ :=
    by decide

theorem witness_EveryStepKeepsTheInvariants :
    (seen 4#8 0x118FEF145#34).isSome = true ∧ ResInv State.reset.res ∧
      isConfiguration State.reset.cfg.img = true ∧ Memory.wf State.reset.cfg.img = true := by
  refine ⟨by decide, ?_, Laws.default_image_is_configuration, Laws.reset_memory_wf⟩
  constructor <;> decide

theorem witness_PortsFitTheirWidths :
    State.reset.ports.length = 18 ∧ busy.ports.length = 18 := by decide

theorem witness_NextContextTable :
    (inContract 0x1080000FF#34 ∧ (opLen 0x1080000FF#34).toNat = 8) ∧
      (inContract 0x11000FFFF#34 ∧ (opLen 0x11000FFFF#34).toNat = 16) ∧
      (inContract 0x118FFFFFF#34 ∧ (opLen 0x118FFFFFF#34).toNat = 24) :=
    by simp [inContract, opSel, opLen, opValue]

theorem witness_ContextComesFromTheHost :
    (busy.presenting 0x2000000FF#34).input = ⟨false, 0x2000000FF#34⟩ :: [] := rfl

theorem witness_StrobeMarksFrames :
    (busy.presenting 0x2000000FF#34).input = ⟨false, 0x2000000FF#34⟩ :: [] := rfl

theorem witness_ResultLifetime :
    (busy.presenting 0x000000000#34).input = ⟨false, 0x000000000#34⟩ :: [] ∧ opSel 0x000000000#34 = 0#2 ∧
      opSel 0x2000000FF#34 = 2#2 ∧ opSel 0x1FFFFFFFF#34 = 1#2 ∧ opSel 0x3FFFFFFFF#34 = 3#2 ∧
      ({ busy with input := [⟨true, 0#34⟩] } : State).input = ⟨true, 0#34⟩ :: [] := by decide

theorem witness_ContextSelectsNothing :
    opSel 0x1180A0C05#34 = 1#2 ∧ opSel 0x10C000ABC#34 = 1#2 := by decide

theorem witness_ControlOpcodesAbove94Miss :
    isConfiguration State.reset.cfg.img = true ∧ 0x94 < (0x95#8 : Byte).toNat ∧ 0x94 < (0xFF#8 : Byte).toNat :=
    ⟨Laws.default_image_is_configuration, by decide⟩

/-- An image without bases; one that maps 0x95, one step above the bound; one that maps 0x94, the bound. -/
theorem witness_StartUpRefusesBadImages :
    (∀ b ∈ familyBases, memRead ({ gear := [], ctrl := [], c1 := [] } : Image) .gear b = none) ∧
      isConfiguration { gear := [], ctrl := [], c1 := [] } = false ∧
      0x94 < (0x95#8 : Byte).toNat ∧
      (memRead { leastImage with ctrl := [(0x95, "X")] } .ctrl 0x95#8).isSome = true ∧
      isConfiguration { leastImage with ctrl := [(0x95, "X")] } = false ∧
      isConfiguration { leastImage with ctrl := [(0x94, "X")] } = true := by decide

/-- An image with the name `n` at `C1(0x00)`. -/
def imageNaming (n : String) : Image := { leastImage with c1 := [(0x00, ⟨n, .plain⟩)] }

theorem witness_StartUpRefusesBadImages_empty :
    ∃ e, memRead (imageNaming "") .c1 0x00#8 = some e ∧ (e.name = "") ∧
      isConfiguration (imageNaming "") = false := ⟨⟨"", .plain⟩, by decide⟩

theorem witness_StartUpRefusesBadImages_hyphen :
    ∃ e, memRead (imageNaming "-X") .c1 0x00#8 = some e ∧ (e.name.toList.head? = some '-') ∧
      isConfiguration (imageNaming "-X") = false := ⟨⟨"-X", .plain⟩, by decide⟩

theorem witness_StartUpRefusesBadImages_reserved :
    ∃ e, memRead (imageNaming "RESERVED") .c1 0x00#8 = some e ∧ (e.name = "RESERVED") ∧
      isConfiguration (imageNaming "RESERVED") = false := ⟨⟨"RESERVED", .plain⟩, by decide⟩

theorem witness_StartUpRefusesBadImages_leading_space :
    ∃ e, memRead (imageNaming " X") .c1 0x00#8 = some e ∧ (e.name.toList.head? = some ' ') ∧
      isConfiguration (imageNaming " X") = false := ⟨⟨" X", .plain⟩, by decide⟩

theorem witness_StartUpRefusesBadImages_trailing_space :
    ∃ e, memRead (imageNaming "X ") .c1 0x00#8 = some e ∧ (e.name.toList.getLast? = some ' ') ∧
      isConfiguration (imageNaming "X ") = false := ⟨⟨"X ", .plain⟩, by decide⟩

theorem witness_StartUpRefusesBadImages_control :
    ∃ e, memRead (imageNaming "X\x1fY") .c1 0x00#8 = some e ∧ (∃ c ∈ e.name.toList, c.toNat < 0x20 ∨ 0x7E < c.toNat) ∧
      isConfiguration (imageNaming "X\x1fY") = false :=
    ⟨⟨"X\x1fY", .plain⟩, by decide, ⟨'\x1f', by decide, by decide⟩, by decide⟩

theorem witness_StartUpRefusesBadImages_delete :
    ∃ e, memRead (imageNaming "X\x7f") .c1 0x00#8 = some e ∧ (∃ c ∈ e.name.toList, c.toNat < 0x20 ∨ 0x7E < c.toNat) ∧
      isConfiguration (imageNaming "X\x7f") = false :=
    ⟨⟨"X\x7f", .plain⟩, by decide, ⟨'\x7f', by decide, by decide⟩, by decide⟩

/-- A space inside a name and 0x7E, the last printable character, are allowed. -/
theorem witness_StartUpRefusesBadImages_bounds :
    isConfiguration (imageNaming "X Y~") = true := by decide

theorem witness_BlockWaitsForTheHost :
    State.reset.input = [] := rfl

theorem witness_AcceptedFramesHaveTexts :
    isConfiguration State.reset.cfg.img = true ∧ opSel 0x11000FF00#34 = 1#2 ∧ opSel 0x10C000ABC#34 = 1#2 :=
    ⟨Laws.default_image_is_configuration, by decide⟩

/-- `BC unadr.`, the longest label. -/
theorem witness_LabelsFillTheirWidth :
    inContract 0x118FD0000#34 ∧ (texts 0x118FD0000#34).map (fun p => p.1.length) = some 10 ∧
      (after 0#8 0x118FD0000#34).bind (fun t => labelWidth State.reset.cfg t.res.dc.lc) = some 10 ∧ 9 ≤ 10 := by
  refine ⟨?_, by decide, by decide, by decide⟩
  simp [inContract, opSel, opLen, opValue]

/-- A placeholder (V30) and a reserved address (R162's example). -/
theorem witness_PlaceholdersAreDistinguishable :
    isConfiguration State.reset.cfg.img = true ∧ inContract 0x11000FF0F#34 ∧ inContract 0x11000E300#34 ∧
      (texts 0x11000FF0F#34).isSome = true ∧ (texts 0x11000E300#34).isSome = true := by
  refine ⟨Laws.default_image_is_configuration, ?_, ?_, by decide, by decide⟩ <;>
    simp [inContract, opSel, opLen, opValue]

theorem witness_CountedFamilyText :
    0xB0#8 ∈ familyBases ∧ nameAt State.reset.cfg.img .gear 0xB0#8 = some "QUERY SCENE LEVEL".toList := by decide

theorem witness_UndefinedOpcodeText :
    isFamily 0x0F#8 = false ∧ memRead State.reset.cfg.img .gear 0x0F#8 = none ∧
      memRead State.reset.cfg.img .ctrl 0x95#8 = none := by decide

theorem witness_StepAlwaysAnswers :
    ({ busy with input := [⟨true, 0x10C000ABC#34⟩] } : State).input = ⟨true, 0x10C000ABC#34⟩ :: [] := rfl

theorem witness_NoOperationWritesMemory :
    ({ busy with input := [⟨true, 0x10C000ABC#34⟩] } : State).input = ⟨true, 0x10C000ABC#34⟩ :: [] := rfl

/-- Frames of each kind without a label: data, 16-bit special, reserved and unmatched, 24-bit special, reserved event. -/
theorem witness_LabelTemplates :
    isConfiguration State.reset.cfg.img = true ∧
      inContract 0x1080000FF#34 ∧ inContract 0x11000C100#34 ∧ inContract 0x11000FB00#34 ∧ inContract 0x110000000#34 ∧
      inContract 0x118C50000#34 ∧ inContract 0x118FEC000#34 := by
  refine ⟨Laws.default_image_is_configuration, ?_⟩
  simp [inContract, opSel, opLen, opValue]

theorem witness_LabelTemplates_kinds :
    (seen 0#8 0x1080000FF#34).map Seen.akind = some .none ∧ (seen 0#8 0x11000C100#34).map Seen.akind = some .special ∧
      (seen 0#8 0x11000FB00#34).map Seen.akind = some .reserved ∧ (seen 0#8 0x110000000#34).map Seen.akind = some .unmatched ∧
      (seen 0#8 0x118C50000#34).map Seen.akind = some .special ∧ (seen 0#8 0x118FEC000#34).map Seen.akind = some .evReserved :=
    by decide

/-- V16, V99, V118, V121, V123, V127. -/
theorem witness_TableEntryTexts :
    isFamily 0x00#8 = false ∧ nameAt State.reset.cfg.img .gear 0x00#8 = some "OFF".toList ∧
      nameAt State.reset.cfg.img .ctrl 0x00#8 = some "IDENTIFY DEVICE".toList ∧ 0x00#8 ≠ 0x01#8 ∧ 0x02#8 ≠ 0x01#8 ∧
      (memRead State.reset.cfg.img .c1 0x00#8).map RomEntry.shape = some .plain ∧
      (memRead State.reset.cfg.img .c1 0x05#8).map RomEntry.shape = some .hexDec ∧
      (memRead State.reset.cfg.img .c1 0x30#8).map RomEntry.shape = some .hexDecBin ∧
      memRead State.reset.cfg.img .c1 0x0B#8 = none := by decide

theorem witness_UntabledTexts :
    (specResolve 0xC1#8).1 = .special ∧ (specResolve 0xDF#8).1 = .special ∧ (specResolve 0x00#8).1 = .unmatched ∧
      (specResolve 0xFE#8).1 = .unmatched ∧ (specResolve 0xFA#8).1 = .reserved ∧
      (specResolve 0xE1#8).1 = .reserved ∧ (0xE1#8 : Byte).getLsbD 0 = true ∧
      (specResolve 0xFB#8).1 = .reserved ∧ (0xFB#8 : Byte).getLsbD 0 = true := by decide

end Sys2Proof.Tests
end

section
/-! PROOF. The number formats (R13). A number printed in base `b` on at least `w` places is its higher part `n / b`
printed on one place less, followed by the digit of `n % b`; every format of R13 is this rule, applied once per place. -/

namespace Sys2Proof.Proofs

open Sys2Proof.Machine

/-! ### Zero padding -/

theorem zeroPad_succ_append_singleton (w : Nat) (t : Text) (c : Char) :
    zeroPad (w + 1) (t ++ [c]) = zeroPad w t ++ [c] := by
  simp [zeroPad]

theorem zeroPad_map {f : Char → Char} (hf : f '0' = '0') (w : Nat) (t : Text) :
    zeroPad w (t.map f) = (zeroPad w t).map f := by
  simp [zeroPad, hf]

/-! ### Printing in a base on a number of places -/

theorem zeroPad_one_toDigits {b n : Nat} (hn : n < b) : zeroPad 1 (Nat.toDigits b n) = [Nat.digitChar n] := by
  simp [zeroPad, Nat.toDigits_of_lt_base hn]

/-- The last place of a padded number. For a single digit the higher part is 0, printed `0`: this is one of the padding
zeros, so the rule needs a place for it (`w + 1`). -/
theorem zeroPad_toDigits_succ {b : Nat} (hb : 1 < b) (w n : Nat) :
    zeroPad (w + 2) (Nat.toDigits b n) =
      zeroPad (w + 1) (Nat.toDigits b (n / b)) ++ [Nat.digitChar (n % b)] := by
  by_cases hn : n < b
  · have hzero : Nat.toDigits b 0 = ['0'] := Nat.toDigits_of_lt_base (by omega)
    rw [Nat.div_eq_of_lt hn, Nat.mod_eq_of_lt hn, hzero, Nat.toDigits_of_lt_base hn]
    simp [zeroPad, List.replicate_succ']
  · rw [Nat.toDigits_of_base_le hb (by omega), zeroPad_succ_append_singleton]

theorem zeroPad_two_toDigits {b n : Nat} (hb : 1 < b) (hn : n < b * b) :
    zeroPad 2 (Nat.toDigits b n) = [Nat.digitChar (n / b), Nat.digitChar (n % b)] := by
  rw [zeroPad_toDigits_succ hb, zeroPad_one_toDigits (Nat.div_lt_of_lt_mul hn)]
  rfl

theorem zeroPad_three_toDigits {b n : Nat} (hb : 1 < b) (hn : n < b * (b * b)) :
    zeroPad 3 (Nat.toDigits b n) =
      [Nat.digitChar (n / (b * b)), Nat.digitChar (n / b % b), Nat.digitChar (n % b)] := by
  rw [zeroPad_toDigits_succ hb, zeroPad_two_toDigits hb (Nat.div_lt_of_lt_mul hn), Nat.div_div_eq_div_mul]
  rfl

/-! ### The characters of digits -/

theorem digitChar_decimal : ∀ d < 10, Nat.digitChar d = Char.ofNat (48 + d) := by decide

/-- An upper-case hexadecimal digit: the decimal digits from code 48, `A` to `F` from code 65. -/
def upperDigit (d : Nat) : Char := Char.ofNat (if d < 10 then 48 + d else 55 + d)

theorem toUpper_digitChar : ∀ d < 16, (Nat.digitChar d).toUpper = upperDigit d := by decide

theorem digitChar_bit (n : Nat) : Nat.digitChar (n % 2) = if n % 2 = 1 then '1' else '0' := by
  obtain h | h := Nat.mod_two_eq_zero_or_one n <;> rw [h] <;> rfl

/-! ### The formats -/

theorem dec2_eq_twoDigits {n : Nat} (hn : n < 100) : dec2 n = twoDigits n := by
  rw [dec2, dec, zeroPad_two_toDigits (by omega) hn, digitChar_decimal _ (by omega), digitChar_decimal _ (by omega),
    twoDigits]

theorem dec_of_lt_ten {n : Nat} (hn : n < 10) : dec n = [Char.ofNat (48 + n)] := by
  rw [dec, Nat.toDigits_of_lt_base hn, digitChar_decimal n hn]

theorem dec_of_ten_le {n : Nat} (hn : 10 ≤ n) : dec n = dec (n / 10) ++ [Char.ofNat (48 + n % 10)] := by
  rw [dec, Nat.toDigits_of_base_le (by omega) hn, digitChar_decimal _ (by omega), dec]

theorem hexUpper_eq_map (w n : Nat) : hexUpper w n = (zeroPad w (Nat.toDigits 16 n)).map Char.toUpper :=
  zeroPad_map (by decide) w _

theorem hexUpper_two {n : Nat} (hn : n < 256) : hexUpper 2 n = [upperDigit (n / 16), upperDigit (n % 16)] := by
  rw [hexUpper_eq_map, zeroPad_two_toDigits (by omega) hn]
  simp only [List.map_cons, List.map_nil]
  rw [toUpper_digitChar _ (by omega), toUpper_digitChar _ (by omega)]

theorem hexUpper_three {n : Nat} (hn : n < 4096) :
    hexUpper 3 n = [upperDigit (n / 256), upperDigit (n / 16 % 16), upperDigit (n % 16)] := by
  rw [hexUpper_eq_map, zeroPad_three_toDigits (by omega) hn]
  simp only [List.map_cons, List.map_nil]
  rw [toUpper_digitChar _ (by omega), toUpper_digitChar _ (by omega), toUpper_digitChar _ (by omega)]

/-- The digits of a number on `w` binary places, the highest first. -/
def bitText (w n : Nat) : Text :=
  (List.range w).map (fun i => if n / 2 ^ (w - 1 - i) % 2 = 1 then '1' else '0')

theorem bitText_succ (w n : Nat) : bitText (w + 1) n = bitText w (n / 2) ++ [Nat.digitChar (n % 2)] := by
  have hplace : ∀ i < w, n / 2 ^ (w - i) = n / 2 / 2 ^ (w - 1 - i) := by
    intro i hi
    have hexp : w - i = w - 1 - i + 1 := by omega
    rw [Nat.div_div_eq_div_mul, hexp, Nat.pow_succ']
  simp only [bitText, List.range_succ, List.map_append, List.map_cons, List.map_nil, digitChar_bit,
    Nat.add_sub_cancel, Nat.sub_self, Nat.pow_zero, Nat.div_one, List.append_cancel_right_eq]
  apply List.map_congr_left
  intro i hi
  rw [hplace i (List.mem_range.mp hi)]

theorem binary_eq_bitText (w : Nat) {n : Nat} (hn : n < 2 ^ (w + 1)) : binary (w + 1) n = bitText (w + 1) n := by
  unfold binary
  induction w generalizing n with
  | zero =>
    have hbit : n < 2 := hn
    rw [zeroPad_one_toDigits hbit, bitText_succ, Nat.mod_eq_of_lt hbit]
    rfl
  | succ w ih =>
    have hhigh : n / 2 < 2 ^ (w + 1) := by omega
    rw [zeroPad_toDigits_succ (by omega), ih hhigh, ← bitText_succ]

/-- Settles O59, from one lemma per format. -/
theorem numberFormats : Obligations.NumberFormats := by
  unfold Obligations.NumberFormats
  intro upper bits
  refine ⟨?decTwo, ?decDigit, ?decMore, ?hexTwo, ?hexThree, ?binEight, ?binTwelve⟩
  case decTwo => exact fun n hn => dec2_eq_twoDigits hn
  case decDigit => exact fun n hn => dec_of_lt_ten hn
  case decMore => exact fun n _ hn => dec_of_ten_le hn
  case hexTwo => exact fun n hn => hexUpper_two hn
  case hexThree => exact fun n hn => hexUpper_three (by omega)
  case binEight => exact fun n hn => binary_eq_bitText 7 hn
  case binTwelve => exact fun n hn => binary_eq_bitText 11 (by omega)

end Sys2Proof.Proofs
end

section
/-! PROOF. What one step does to `CTX` and `RES` (R36), said once. A FRAME operation answers with a `FrameAnswer`, which
is fixed by the instruction and the image and does not depend on `CTX` (R21); the other operations are NOP, LOAD_CTX and
SRESET. The invariants of R37 and the rules about the whole step are read off this inversion. -/

namespace Sys2Proof.Proofs

open Sys2Proof.Machine Sys2Proof.Laws

/-! ### The answer to a FRAME -/

/-- What a FRAME operation answers: a rejection, or a record of one of the three widths. -/
inductive FrameAnswer where
  | rejected (e : ErrCode)
  | data (d : Byte)
  | gear (adr : AddrPart) (cmd : CmdPart) (ab op : Byte)
  | control (adr : AddrPart) (cmd : CmdPart) (ab ib op : Byte)

/-- The state that answer leaves. -/
def FrameAnswer.apply (s : State) : FrameAnswer → State
  | .rejected e => s.reject e
  | .data d => s.accept (record8 d s.ctx)
  | .gear adr cmd ab op => s.accept16 adr cmd ab op
  | .control adr cmd ab ib op => s.accept24 adr cmd ab ib op

/-- An absent address field reads 0 (R37 (d)). -/
def AbsentFieldsZero (adr : AddrPart) : Prop :=
  (adr.af1v = false → adr.af1 = 0#6) ∧ (adr.af2v = false → adr.af2 = 0#6)

/-- What R37 (a) and (d) to (g) ask of the parts of a record. -/
def FrameAnswer.Legal : FrameAnswer → Prop
  | .rejected _ => True
  | .data _ => True
  | .gear adr cmd _ _ =>
    AbsentFieldsZero adr ∧ cmd.ckind ≠ .none ∧ 1 ≤ adr.akind.code ∧ adr.akind.code ≤ 7
  | .control adr cmd ab _ _ =>
    AbsentFieldsZero adr ∧ cmd.ckind ≠ .none ∧
      (ab.getLsbD 0 = true → 1 ≤ adr.akind.code ∧ adr.akind.code ≤ 6) ∧
      (ab.getLsbD 0 = false → 8 ≤ adr.akind.code ∧ adr.akind.code ≤ 14)

@[simp] theorem FrameAnswer.apply_cfg (s : State) (a : FrameAnswer) : (a.apply s).cfg = s.cfg := by
  cases a <;> rfl

@[simp] theorem FrameAnswer.apply_new (s : State) (a : FrameAnswer) : (a.apply s).res.new = true := by
  cases a <;> rfl

theorem FrameAnswer.apply_ctx (s : State) (a : FrameAnswer) :
    (a.apply s).ctx = s.ctx ∨ (a.apply s).ctx = 0#8 := by
  cases a with
  | rejected e => exact .inl rfl
  | data d => exact .inl rfl
  | gear adr cmd ab op => exact .inr rfl
  | control adr cmd ab ib op => exact .inl rfl

/-- The context reaches the result in `next_context` alone (R21). -/
theorem FrameAnswer.apply_with_ctx (s : State) (c : Byte) (a : FrameAnswer) :
    (a.apply { s with ctx := c }).res =
      { (a.apply s).res with
        dc := { (a.apply s).res.dc with nextContext := (a.apply { s with ctx := c }).res.dc.nextContext } } := by
  cases a <;> rfl

/-! ### The parts of a record -/

theorem absentFieldsZero_bare (k : AddrKind) : AbsentFieldsZero (AddrPart.bare k) :=
  ⟨fun _ => rfl, fun _ => rfl⟩

theorem absentFieldsZero_formPart (form : AddrForm) : AbsentFieldsZero (formPart form) := by
  cases form <;> simp [AbsentFieldsZero, formPart, AddrPart.bare]

theorem absentFieldsZero_eventPart (k : AddrKind) (f1 f2 : BitVec 5) : AbsentFieldsZero (eventPart k f1 f2) := by
  simp [AbsentFieldsZero, eventPart]

theorem absentFieldsZero_powerCyclePart (gv : BitVec 1) (g : BitVec 5) (av : BitVec 1) (a : BitVec 6) :
    AbsentFieldsZero (powerCyclePart gv g av a) := by
  simp +contextual [AbsentFieldsZero, powerCyclePart]

theorem formPart_akind_code (form : AddrForm) :
    1 ≤ (formPart form).akind.code ∧ (formPart form).akind.code ≤ 4 := by
  cases form <;> simp [formPart, AddrPart.bare, AddrKind.code]

/-- A byte spelled with a last bit 1 is odd: it is the address byte of a command frame (R111). -/
theorem getLsbD_zero_append_one {n : Nat} (x : BitVec n) : (x ++ 1#1).getLsbD 0 = true := by
  simp [BitVec.getLsbD_append]

theorem formByte_odd (form : AddrForm) : form.byte.getLsbD 0 = true := by
  cases form with
  | short a => exact getLsbD_zero_append_one _
  | group x g => exact getLsbD_zero_append_one _
  | bcUnaddr => rfl
  | bc => rfl

/-- The address byte of an event frame is even (R111). -/
theorem byteHi_even_of_selector {v : Value} (h : v.extractLsb' 16 1 = 0#1) : (byteHi v).getLsbD 0 = false := by
  have hbit := congrArg (fun x => BitVec.getLsbD x 0) h
  simpa [byteHi] using hbit

/-! ### Each row has a legal answer -/

/-- Under the image `img`, the meaning `f` answers every state with one legal answer. -/
def Answered (img : Image) (f : State → Host.Outcome State Fault Refusal) : Prop :=
  ∃ a : FrameAnswer, a.Legal ∧ ∀ s : State, s.cfg.img = img → f s = .next (a.apply s)

section
variable (img : Image)

theorem answered_reject (e : ErrCode) : Answered img (fun s => .next (s.reject e)) :=
  ⟨.rejected e, trivial, fun _ _ => rfl⟩

theorem answered_unaddressed16 {k : AddrKind} {c : CmdKind} (ab op : Byte) (hlo : 1 ≤ k.code) (hhi : k.code ≤ 7)
    (hc : c ≠ .none) : Answered img (fun s => .next (unaddressed16 k c ab op s)) :=
  ⟨.gear (AddrPart.bare k) (CmdPart.bare c) ab op, ⟨absentFieldsZero_bare k, hc, hlo, hhi⟩, fun _ _ => rfl⟩

theorem legal_gear_form (form : AddrForm) {cmd : CmdPart} (op : Byte) (hc : cmd.ckind ≠ .none) :
    (FrameAnswer.gear (formPart form) cmd form.byte op).Legal := by
  have hcode := formPart_akind_code form
  exact ⟨absentFieldsZero_formPart form, hc, by omega, by omega⟩

theorem answered_counted16 (base : Byte) (form : AddrForm) (k : BitVec 4) :
    Answered img (fun s => .next (counted16 base form k s)) :=
  ⟨.gear (formPart form) ⟨.gearCounted, base, .plain, .unaddressed⟩ form.byte (base + k.setWidth 8),
    legal_gear_form form _ (by simp), fun _ _ => rfl⟩

theorem answered_g16Lut (form : AddrForm) (op : Byte) : Answered img (execG16Lut form op) := by
  cases hread : memRead img .gear op with
  | some e =>
    refine ⟨.gear (formPart form) ⟨.gearNamed, op, .plain, .unaddressed⟩ form.byte op,
      legal_gear_form form op (by simp), fun s hs => ?_⟩
    obtain ⟨_, _, hexec⟩ := (execG16Lut_cases form op s).resolve_right (by simp [hs, hread])
    exact hexec
  | none =>
    refine ⟨.gear (formPart form) (CmdPart.bare .gearUndef) form.byte op,
      legal_gear_form form op (by decide), fun s hs => ?_⟩
    exact ((execG16Lut_cases form op s).resolve_left (by simp [hs, hread])).2

theorem answered_gearStage (form : AddrForm) (op : Byte) : Answered img (gearStage form op) := by
  cases hfamily : isFamily op with
  | true =>
    refine ⟨.gear (formPart form) ⟨.gearCounted, op &&& 0xF0#8, .plain, .unaddressed⟩ form.byte op,
      legal_gear_form form op (by simp), fun s _ => ?_⟩
    exact ((gearStage_cases form op s).resolve_right (by simp [hfamily])).2
  | false =>
    obtain ⟨a, hlegal, hexec⟩ := answered_g16Lut img form op
    refine ⟨a, hlegal, fun s hs => ?_⟩
    exact ((gearStage_cases form op s).resolve_left (by simp [hfamily])).2.trans (hexec s hs)

theorem legal_control_odd {adr : AddrPart} {cmd : CmdPart} {ab : Byte} (ib op : Byte) (hadr : AbsentFieldsZero adr)
    (hc : cmd.ckind ≠ .none) (hodd : ab.getLsbD 0 = true) (hlo : 1 ≤ adr.akind.code) (hhi : adr.akind.code ≤ 6) :
    (FrameAnswer.control adr cmd ab ib op).Legal :=
  ⟨hadr, hc, fun _ => ⟨hlo, hhi⟩, fun heven => absurd (hodd.symm.trans heven) (by decide)⟩

theorem answered_g24Lut (form : AddrForm) (ib op : Byte) : Answered img (execG24Lut form ib op) := by
  have hcode := formPart_akind_code form
  have hlegal : ∀ cmd : CmdPart, cmd.ckind ≠ .none →
      (FrameAnswer.control (formPart form) cmd form.byte ib op).Legal := fun cmd hc =>
    legal_control_odd ib op (absentFieldsZero_formPart form) hc (formByte_odd form) (by omega) (by omega)
  cases hread : memRead img .ctrl op with
  | some e =>
    refine ⟨_, hlegal ⟨.ctrlNamed, op, .plain, .unaddressed⟩ (by simp), fun s hs => ?_⟩
    obtain ⟨_, _, hexec⟩ := (execG24Lut_cases form ib op s).resolve_right (by simp [hs, hread])
    exact hexec
  | none =>
    refine ⟨_, hlegal (CmdPart.bare .ctrlUndef) (by decide), fun s hs => ?_⟩
    exact ((execG24Lut_cases form ib op s).resolve_left (by simp [hs, hread])).2

theorem answered_reserved24 {ab : Byte} (ib op : Byte) (hodd : ab.getLsbD 0 = true) :
    Answered img (fun s => .next (reserved24 ab ib op s)) :=
  ⟨.control (AddrPart.bare .reserved) (CmdPart.bare .reserved) ab ib op,
    legal_control_odd ib op (absentFieldsZero_bare _) (by decide) hodd (by decide) (by decide), fun _ _ => rfl⟩

theorem legal_special {cmd : CmdPart} {ab : Byte} (ib op : Byte) (hc : cmd.ckind ≠ .none)
    (hodd : ab.getLsbD 0 = true) : (FrameAnswer.control (AddrPart.bare .special) cmd ab ib op).Legal :=
  legal_control_odd ib op (absentFieldsZero_bare _) hc hodd (by decide) (by decide)

theorem answered_special {cmd : CmdPart} {ab : Byte} (ib op : Byte) (hc : cmd.ckind ≠ .none)
    (hodd : ab.getLsbD 0 = true) : Answered img (fun s => .next (acceptSpecial cmd ab ib op s)) :=
  ⟨_, legal_special ib op hc hodd, fun _ _ => rfl⟩

theorem answered_initialise (sub : InitSub) (op : Byte) : Answered img (fun s => .next (initialise sub op s)) :=
  answered_special img 0x01#8 op (cmd := ⟨.spcInitialise, 0#8, .plain, sub⟩) (by simp) (by decide)

theorem answered_s24C1Lut (ib op : Byte) : Answered img (execS24C1Lut ib op) := by
  cases hread : memRead img .c1 ib with
  | some e =>
    refine ⟨_, legal_special (cmd := ⟨.spcC1Named, ib, e.shape, .unaddressed⟩) (ab := 0xC1#8) ib op
      (by simp) (by decide), fun s hs => ?_⟩
    obtain ⟨e', hread', hexec⟩ := (execS24C1Lut_cases ib op s).resolve_right (by simp [hs, hread])
    obtain rfl : e = e' := by simpa [hs, hread] using hread'
    exact hexec
  | none =>
    refine ⟨_, legal_special (cmd := CmdPart.bare .spcC1Undef) (ab := 0xC1#8) ib op
      (by decide) (by decide), fun s hs => ?_⟩
    exact ((execS24C1Lut_cases ib op s).resolve_left (by simp [hs, hread])).2

theorem answered_event {adr : AddrPart} {c : CmdKind} {v : Value} (hadr : AbsentFieldsZero adr) (hc : c ≠ .none)
    (heven : v.extractLsb' 16 1 = 0#1) (hlo : 8 ≤ adr.akind.code) (hhi : adr.akind.code ≤ 14) :
    Answered img (fun s => .next (acceptEvent adr c v s)) :=
  ⟨.control adr (CmdPart.bare c) (byteHi v) (byteMid v) (byteLo v),
    ⟨hadr, hc, fun hodd => absurd ((byteHi_even_of_selector heven).symm.trans hodd) (by decide),
      fun _ => ⟨hlo, hhi⟩⟩,
    fun _ _ => rfl⟩

/-- An event row with two fields (R134 to R138). -/
theorem answered_fieldEvent {k : AddrKind} (s23 s22 : BitVec 1) (f1 : BitVec 5) (s15 : BitVec 1) (f2 : BitVec 5)
    (ev : BitVec 10) (hlo : 8 ≤ k.code) (hhi : k.code ≤ 14) :
    Answered img
      (fun s => .next (acceptEvent (eventPart k f1 f2) .event (eventValue s23 s22 f1 s15 f2 ev) s)) :=
  answered_event img (absentFieldsZero_eventPart k f1 f2) (by decide) (eventValue_selector s23 s22 f1 s15 f2 ev) hlo hhi

end

/-! ### Which rows are FRAME operations -/

/-- The rows of a FRAME operation (R61): all but NOP, LOAD_CTX and SRESET. -/
def isFrameRow : Instr → Bool
  | .nop | .loadCtx _ | .sreset => false
  | _ => true

/-- Every row of a FRAME operation, of either stage, has a legal answer fixed by the image. -/
theorem frameRow_answered (img : Image) (i : Instr) (h : isFrameRow i = true) : Answered img (exec i) := by
  cases i with
  | nop => cases h
  | loadCtx c => cases h
  | sreset => cases h
  | f8Data d => exact ⟨.data d, trivial, fun _ _ => rfl⟩
  | f8ErrRange v => exact answered_reject img .range
  | a16Short a op => exact answered_gearStage img (.short a) op
  | a16Group x g op => exact answered_gearStage img (.group x g) op
  | a16BcUnaddr op => exact answered_gearStage img .bcUnaddr op
  | a16Bc op => exact answered_gearStage img .bc op
  | a16UnmatchedC0 op => exact answered_unaddressed16 img _ op (by decide) (by decide) (by decide)
  | a16Special n op => exact answered_unaddressed16 img _ op (by decide) (by decide) (by decide)
  | a16UnmatchedE0 op => exact answered_unaddressed16 img _ op (by decide) (by decide) (by decide)
  | a16ReservedE n op => exact answered_unaddressed16 img _ op (by decide) (by decide) (by decide)
  | a16UnmatchedF0 op => exact answered_unaddressed16 img _ op (by decide) (by decide) (by decide)
  | a16ReservedF1 n op => exact answered_unaddressed16 img _ op (by decide) (by decide) (by decide)
  | a16ReservedF8 n op => exact answered_unaddressed16 img _ op (by decide) (by decide) (by decide)
  | a16Unmatched ab op => exact answered_unaddressed16 img ab op (by decide) (by decide) (by decide)
  | f16ErrRange v => exact answered_reject img .range
  | e24PowerCycle gv g av a =>
    exact answered_event img (absentFieldsZero_powerCyclePart gv g av a) (by decide)
      (powerCycleValue_selector gv g av a) (by simp [powerCyclePart, AddrKind.code])
      (by simp [powerCyclePart, AddrKind.code])
  | e24Reserved f1 f2 ev =>
    exact answered_event img (absentFieldsZero_bare _) (by decide) (eventValue_selector _ _ f1 _ f2 ev)
      (by decide) (by decide)
  | e24InstanceGroup f1 f2 ev => exact answered_fieldEvent img _ _ f1 _ f2 ev (by decide) (by decide)
  | e24Instance f1 f2 ev => exact answered_fieldEvent img _ _ f1 _ f2 ev (by decide) (by decide)
  | e24DeviceGroup f1 f2 ev => exact answered_fieldEvent img _ _ f1 _ f2 ev (by decide) (by decide)
  | e24DeviceInstance s22 f1 f2 ev => exact answered_fieldEvent img _ s22 f1 _ f2 ev (by decide) (by decide)
  | e24Device s22 f1 f2 ev => exact answered_fieldEvent img _ s22 f1 _ f2 ev (by decide) (by decide)
  | a24Short a ib op => exact answered_g24Lut img (.short a) ib op
  | a24Group x g ib op => exact answered_g24Lut img (.group x g) ib op
  | a24BcUnaddr ib op => exact answered_g24Lut img .bcUnaddr ib op
  | a24Bc ib op => exact answered_g24Lut img .bc ib op
  | s24InitialiseUnaddressed => exact answered_initialise img _ _
  | s24InitialiseAll => exact answered_initialise img _ _
  | s24InitialiseOne k => exact answered_initialise img _ _
  | s24InitialiseNone op => exact answered_initialise img _ op
  | s24C1Lut ib op => exact answered_s24C1Lut img ib op
  | s24DirectWrite ib op => exact answered_special img ib op (by decide) (by decide)
  | s24Dtr1Dtr0 ib op => exact answered_special img ib op (by decide) (by decide)
  | s24Dtr2Dtr1 ib op => exact answered_special img ib op (by decide) (by decide)
  | s24Unknown n ib op => exact answered_special img ib op (by decide) (getLsbD_zero_append_one _)
  | a24ReservedE n ib op => exact answered_reserved24 img ib op (getLsbD_zero_append_one _)
  | a24ReservedF1 n ib op => exact answered_reserved24 img ib op (getLsbD_zero_append_one _)
  | a24ReservedF9 n ib op => exact answered_reserved24 img ib op (getLsbD_zero_append_one _)
  | fErrLen len => exact answered_reject img .len
  | g16GotoScene form k => exact answered_counted16 img _ form k
  | g16SetScene form k => exact answered_counted16 img _ form k
  | g16RemoveScene form k => exact answered_counted16 img _ form k
  | g16AddGroup form k => exact answered_counted16 img _ form k
  | g16RemoveGroup form k => exact answered_counted16 img _ form k
  | g16QuerySceneLevel form k => exact answered_counted16 img _ form k
  | g16Lut form op => exact answered_g16Lut img form op
  | g24Lut form ib op => exact answered_g24Lut img form ib op

theorem isFrameRow_ite {c : Prop} [Decidable c] {i j : Instr} (hi : isFrameRow i = true) (hj : isFrameRow j = true) :
    isFrameRow (if c then i else j) = true := by
  split_ifs
  · exact hi
  · exact hj

theorem decode16_isFrameRow (ab op : Byte) : isFrameRow (decode16 ab op) = true := by
  unfold decode16
  iterate 11 refine isFrameRow_ite rfl ?_
  rfl

theorem decodeEvent_isFrameRow (v : Value) : isFrameRow (decodeEvent v) = true := by
  unfold decodeEvent
  exact isFrameRow_ite rfl (isFrameRow_ite (isFrameRow_ite (isFrameRow_ite rfl rfl) (isFrameRow_ite rfl rfl))
    (isFrameRow_ite rfl rfl))

theorem decodeInitialise_isFrameRow (op : Byte) : isFrameRow (decodeInitialise op) = true := by
  unfold decodeInitialise
  iterate 3 refine isFrameRow_ite rfl ?_
  rfl

theorem decode24Odd_isFrameRow (ab ib op : Byte) : isFrameRow (decode24Odd ab ib op) = true := by
  have hinitialise := decodeInitialise_isFrameRow op
  unfold decode24Odd
  iterate 4 refine isFrameRow_ite rfl ?_
  refine isFrameRow_ite (isFrameRow_ite hinitialise rfl) ?_
  iterate 6 refine isFrameRow_ite rfl ?_
  rfl

/-- Every length and every value decodes to a row of a FRAME operation (R61, R81). -/
theorem decodeFrame_isFrameRow (len : Byte) (v : Value) : isFrameRow (decodeFrame len v) = true := by
  have hevent := decodeEvent_isFrameRow v
  have hcommand := decode24Odd_isFrameRow (byteHi v) (byteMid v) (byteLo v)
  have hgear := decode16_isFrameRow (byteMid v) (byteLo v)
  exact isFrameRow_ite (isFrameRow_ite rfl rfl)
    (isFrameRow_ite (isFrameRow_ite hgear rfl) (isFrameRow_ite (isFrameRow_ite hevent hcommand) rfl))

/-! ### What a step does -/

/-- The state after the operation `p` from the state `s`, in which `p` is no longer presented: the columns of R36. -/
inductive Effect (s : State) (p : HostInput) : State → Prop where
  | reset (hrst : p.rst = true) : Effect s p s.sessionReset
  | nop (hrst : p.rst = false) (hsel : opSel p.opw = 0#2) : Effect s p s.idle
  | frame (hrst : p.rst = false) (hsel : opSel p.opw = 1#2) (a : FrameAnswer) (ha : a.Legal) : Effect s p (a.apply s)
  | loadCtx (hrst : p.rst = false) (hsel : opSel p.opw = 2#2) : Effect s p (s.loadCtx (p.opw.extractLsb' 0 8))
  | sreset (hrst : p.rst = false) (hsel : opSel p.opw = 3#2) : Effect s p s.sessionReset

theorem decode_of_nop {w : OpWord} (hsel : opSel w = 0#2) : decode w = .nop := by
  simp [decode, hsel]

theorem decode_of_loadCtx {w : OpWord} (hsel : opSel w = 2#2) : decode w = .loadCtx (w.extractLsb' 0 8) := by
  simp [decode, hsel]

theorem decode_of_sreset {w : OpWord} (hsel : opSel w = 3#2) : decode w = .sreset := by
  simp [decode, hsel]

theorem decode_of_frame {w : OpWord} (hsel : opSel w = 1#2) : decode w = decodeFrame (opLen w) (opValue w) := by
  simp [decode, hsel]

/-- The answer to a FRAME word is legal and is fixed by the image. -/
theorem step_frame {w : OpWord} (hsel : opSel w = 1#2) (img : Image) :
    ∃ a : FrameAnswer, a.Legal ∧ ∀ (s : State) (rest : List HostInput), s.input = ⟨false, w⟩ :: rest →
      s.cfg.img = img → step s = .next (a.apply { s with input := rest }) := by
  have hrow : isFrameRow (decode w) = true := decode_of_frame hsel ▸ decodeFrame_isFrameRow _ _
  obtain ⟨a, hlegal, hexec⟩ := frameRow_answered img (decode w) hrow
  exact ⟨a, hlegal, fun s rest hinput himg => (step_operation s w rest hinput).trans (hexec _ himg)⟩

theorem opSel_cases (w : OpWord) : opSel w = 0#2 ∨ opSel w = 1#2 ∨ opSel w = 2#2 ∨ opSel w = 3#2 := by
  generalize opSel w = sel
  revert sel
  decide

/-- A step on a presented operation answers, with the effect of that operation. -/
theorem step_effect {s : State} {p : HostInput} {rest : List HostInput} (hinput : s.input = p :: rest) :
    ∃ t, step s = .next t ∧ Effect { s with input := rest } p t := by
  obtain ⟨rst, w⟩ := p
  cases rst with
  | true => exact ⟨_, step_reset s w rest hinput, .reset rfl⟩
  | false =>
    have hstep := step_operation s w rest hinput
    obtain hsel | hsel | hsel | hsel := opSel_cases w
    · rw [decode_of_nop hsel] at hstep
      exact ⟨_, hstep, .nop rfl hsel⟩
    · obtain ⟨a, hlegal, hanswer⟩ := step_frame hsel s.cfg.img
      exact ⟨a.apply { s with input := rest }, hanswer s rest hinput rfl,
        .frame (p := ⟨false, w⟩) rfl hsel a hlegal⟩
    · rw [decode_of_loadCtx hsel] at hstep
      exact ⟨_, hstep, .loadCtx rfl hsel⟩
    · rw [decode_of_sreset hsel] at hstep
      exact ⟨_, hstep, .sreset rfl hsel⟩

theorem Effect.cfg_eq {s t : State} {p : HostInput} (h : Effect s p t) : t.cfg = s.cfg := by
  cases h <;> simp

end Sys2Proof.Proofs
end

section
/-! PROOF. The codes of the enumerations stay below the codes no rule produces (R22 to R24, R37 (h)); the output ports
fit their widths (R28). -/

namespace Sys2Proof.Proofs

open Sys2Proof.Machine

theorem addrKind_code_lt (k : AddrKind) : k.code < 15 := by
  cases k <;> decide

theorem cmdKind_code_lt (k : CmdKind) : k.code < 20 := by
  cases k <;> decide

theorem errCode_code_lt (e : ErrCode) : e.code < 3 := by
  cases e <;> decide

theorem lenClass_code_lt (l : LenClass) : l.code < 4 := by
  cases l <;> decide

theorem shapeCode_lt (h : Shape) : shapeCode h < 3 := by
  cases h <;> decide

theorem initSub_code_lt (i : InitSub) : i.code < 4 := by
  cases i <;> decide

/-- The value on a port lies in the port's range. -/
theorem ports_fit (s : State) : ∀ f ∈ s.ports, f.value < 2 ^ f.width := by
  have hbool : ∀ b : Bool, b.toNat < 2 := Bool.toNat_lt
  have herr := errCode_code_lt s.res.err
  have hakind := addrKind_code_lt s.res.dc.akind
  have hckind := cmdKind_code_lt s.res.dc.ckind
  have hshape := shapeCode_lt s.res.dc.shape
  simp only [State.ports, List.forall_mem_cons]
  refine ⟨s.ctx.isLt, hbool _, hbool _, by omega, lenClass_code_lt _, by omega, BitVec.isLt _, hbool _,
    BitVec.isLt _, hbool _, by omega, BitVec.isLt _, by omega, initSub_code_lt _, BitVec.isLt _, BitVec.isLt _,
    BitVec.isLt _, BitVec.isLt _, ?_⟩
  exact List.forall_mem_nil _

theorem bool_toNat_eq_ite (b : Bool) : b.toNat = if b then 1 else 0 := by
  cases b <;> rfl

/-- Settles O37: the widths and the codes by evaluation, the ranges from the bound of each code. -/
theorem portsFitTheirWidths : Obligations.PortsFitTheirWidths := by
  unfold Obligations.PortsFitTheirWidths
  refine ⟨?atReset, fun s => ⟨?widths, ports_fit s, ?fields⟩, ?akind, ?ckind, ?err, ?lc, ?shape, ?isub⟩
  case atReset => decide
  case widths => simp [State.ports]
  case fields => simp only [State.ports, List.map_cons, List.map_nil, bool_toNat_eq_ite]
  case akind => intro k; cases k <;> rfl
  case ckind => intro k; cases k <;> rfl
  case err => intro e; cases e <;> rfl
  case lc => intro l; cases l <;> rfl
  case shape => intro h; cases h <;> rfl
  case isub => intro i; cases i <;> rfl

end Sys2Proof.Proofs
end

section
/-! PROOF. The invariants of R37: the reset state has them and every step keeps them. After them the rules about `CTX` and
the strobe, from the same inversion of the step. -/

namespace Sys2Proof.Proofs

open Sys2Proof.Machine Sys2Proof.Laws

/-! ### The result bank -/

/-- R37 (h) holds of every bank: the codes no rule produces cannot be represented (U20). -/
theorem res_codes (r : Res) :
    r.err.code ≠ 3 ∧ shapeCode r.dc.shape ≠ 3 ∧ r.dc.akind.code ≠ 15 ∧ r.dc.ckind.code < 20 :=
  ⟨(errCode_code_lt _).ne, (shapeCode_lt _).ne, (addrKind_code_lt _).ne, cmdKind_code_lt _⟩

/-- A bank without a result: the record is cleared, whatever the code of the error. -/
theorem resInv_invalid {r : Res} (hvalid : r.valid = false) (hdc : r.dc = Decoded.cleared) : ResInv r where
  valid_result := by simp [hvalid]
  invalid_cleared _ := hdc
  err_invalid _ := hvalid
  af1_absent _ := by rw [hdc]; rfl
  af2_absent _ := by rw [hdc]; rfl
  frame8 h := by rw [hdc] at h; cases h
  frame16 h := by rw [hdc] at h; cases h
  frame24_command h := by rw [hdc] at h; cases h
  frame24_event h := by rw [hdc] at h; cases h
  codes := res_codes r

theorem resInv_cleared : ResInv Res.cleared := resInv_invalid rfl rfl

theorem resInv_rejected (e : ErrCode) : ResInv (Res.rejected e) := resInv_invalid rfl rfl

/-- The invariants do not speak of the strobe. -/
theorem resInv_quiet {r : Res} (h : ResInv r) : ResInv r.quiet where
  valid_result := h.valid_result
  invalid_cleared := h.invalid_cleared
  err_invalid := h.err_invalid
  af1_absent := h.af1_absent
  af2_absent := h.af2_absent
  frame8 := h.frame8
  frame16 := h.frame16
  frame24_command := h.frame24_command
  frame24_event := h.frame24_event
  codes := h.codes

theorem resInv_record8 (d ctx : Byte) : ResInv (Res.accepted (record8 d ctx)) where
  valid_result _ := ⟨rfl, nofun, nofun⟩
  invalid_cleared := nofun
  err_invalid h := absurd rfl h
  af1_absent _ := rfl
  af2_absent _ := rfl
  frame8 _ := ⟨rfl, rfl, rfl, rfl⟩
  frame16 := nofun
  frame24_command := nofun
  frame24_event := nofun
  codes := res_codes _

theorem resInv_record16 {adr : AddrPart} {cmd : CmdPart} {ab op : Byte} (h : (FrameAnswer.gear adr cmd ab op).Legal) :
    ResInv (Res.accepted (record16 adr cmd ab op)) := by
  obtain ⟨⟨haf1, haf2⟩, hcmd, hlo, hhi⟩ := h
  exact {
    valid_result := fun _ => ⟨rfl, nofun, hcmd⟩
    invalid_cleared := nofun
    err_invalid := fun h => absurd rfl h
    af1_absent := haf1
    af2_absent := haf2
    frame8 := nofun
    frame16 := fun _ => ⟨rfl, rfl, hlo, hhi⟩
    frame24_command := nofun
    frame24_event := nofun
    codes := res_codes _ }

theorem resInv_record24 {adr : AddrPart} {cmd : CmdPart} {ab ib op : Byte} (ctx : Byte)
    (h : (FrameAnswer.control adr cmd ab ib op).Legal) : ResInv (Res.accepted (record24 adr cmd ab ib op ctx)) := by
  obtain ⟨⟨haf1, haf2⟩, hcmd, hcommand, hevent⟩ := h
  exact {
    valid_result := fun _ => ⟨rfl, nofun, hcmd⟩
    invalid_cleared := nofun
    err_invalid := fun h => absurd rfl h
    af1_absent := haf1
    af2_absent := haf2
    frame8 := nofun
    frame16 := nofun
    frame24_command := fun _ => hcommand
    frame24_event := fun _ => hevent
    codes := res_codes _ }

/-- A legal answer leaves a bank with the invariants. -/
theorem resInv_apply (s : State) {a : FrameAnswer} (ha : a.Legal) : ResInv (a.apply s).res := by
  cases a with
  | rejected e => exact resInv_rejected e
  | data d => exact resInv_record8 d s.ctx
  | gear adr cmd ab op => exact resInv_record16 ha
  | control adr cmd ab ib op => exact resInv_record24 s.ctx ha

/-- Every operation keeps the invariants of the bank. -/
theorem Effect.resInv {s t : State} {p : HostInput} (h : Effect s p t) (hinv : ResInv s.res) : ResInv t.res := by
  cases h with
  | reset => exact resInv_cleared
  | nop => exact resInv_quiet hinv
  | frame _ _ a ha => exact resInv_apply s ha
  | loadCtx => exact resInv_quiet hinv
  | sreset => exact resInv_cleared

/-! ### The state -/

/-- Settles O36. -/
theorem resetStateIsSafe : Obligations.ResetStateIsSafe := by
  unfold Obligations.ResetStateIsSafe
  exact ⟨resInv_cleared, reset_memory_wf, default_image_is_configuration⟩

/-- Settles O35: a waiting step changes nothing; any other has the effect of the operation presented, which keeps the
invariants of the bank and does not touch the image. -/
theorem everyStepKeepsTheInvariants : Obligations.EveryStepKeepsTheInvariants := by
  unfold Obligations.EveryStepKeepsTheInvariants
  intro s t hsafe hstep
  cases hinput : s.input with
  | nil =>
    rw [step_waiting s hinput] at hstep
    cases hstep
    exact hsafe
  | cons p rest =>
    obtain ⟨t', hstep', heffect⟩ := step_effect hinput
    rw [hstep'] at hstep
    cases hstep
    have hcfg : t.cfg = s.cfg := heffect.cfg_eq
    exact ⟨heffect.resInv hsafe.res, hcfg ▸ hsafe.memWf, hcfg ▸ hsafe.image⟩

/-! ### Rules about the whole step -/

/-- Settles O39, from the effect of each operation on `CTX`. -/
theorem contextComesFromTheHost : Obligations.ContextComesFromTheHost := by
  unfold Obligations.ContextComesFromTheHost
  intro s p rest hinput
  obtain ⟨t, hstep, heffect⟩ := step_effect hinput
  refine ⟨t, hstep, ?_⟩
  cases heffect with
  | reset => exact .inr (.inl rfl)
  | nop => exact .inl rfl
  | frame _ _ a _ => exact (a.apply_ctx _).imp_right .inl
  | loadCtx hrst hsel => exact .inr (.inr ⟨hrst, hsel, rfl⟩)
  | sreset => exact .inr (.inl rfl)

/-- Settles O40, from the effect of each operation on the strobe. -/
theorem strobeMarksFrames : Obligations.StrobeMarksFrames := by
  unfold Obligations.StrobeMarksFrames
  intro s p rest hinput
  obtain ⟨t, hstep, heffect⟩ := step_effect hinput
  refine ⟨t, hstep, ?_⟩
  cases heffect with
  | reset hrst => simp [hrst]
  | nop _ hsel => simp [hsel]
  | frame hrst hsel a _ => simp [hrst, hsel]
  | loadCtx _ hsel => simp [hsel]
  | sreset _ hsel => simp [hsel]

/-- Settles O42: the two states hold one image, so one answer serves both. -/
theorem contextSelectsNothing : Obligations.ContextSelectsNothing := by
  unfold Obligations.ContextSelectsNothing
  intro s c w hsel
  obtain ⟨a, -, hstep⟩ := step_frame hsel s.cfg.img
  exact ⟨_, _, hstep _ [] rfl rfl, hstep _ [] rfl rfl, a.apply_with_ctx { s with input := [] } c⟩

end Sys2Proof.Proofs
end

section
/-! PROOF. The constraints on the image (R31, R32, R250), as what a read can answer: start-up refuses an image that
breaks one (U12), and the control-device table misses above 0x94. -/

namespace Sys2Proof.Proofs

open Sys2Proof.Machine Sys2Proof.Laws

/-! ### Names and images -/

/-- R250, condition by condition. -/
theorem isName_iff (n : String) : isName n = true ↔
    n.toList ≠ [] ∧ (∀ c ∈ n.toList, 0x20 ≤ c.toNat ∧ c.toNat ≤ 0x7E) ∧ n.toList.head? ≠ some '-' ∧
      n.toList.head? ≠ some ' ' ∧ n.toList.getLast? ≠ some ' ' ∧ n.toList ≠ "RESERVED".toList := by
  simp only [isName, isPrintable, Bool.and_eq_true, Bool.not_eq_true', List.isEmpty_eq_false_iff, List.all_eq_true,
    decide_eq_true_eq, bne_iff_ne, and_assoc]

/-- R31, R32 and R250, condition by condition. -/
theorem isConfiguration_iff (m : Memory) : isConfiguration m = true ↔
    Memory.wf m = true ∧ (∀ e ∈ m.gear, isName e.2 = true) ∧ (∀ e ∈ m.ctrl, isName e.2 = true) ∧
      (∀ e ∈ m.c1, isName e.2.name = true) ∧ (∀ b ∈ familyBases, (memRead m .gear b).isSome = true) ∧
      (∀ e ∈ m.ctrl, e.1 ≤ 0x94) := by
  simp only [isConfiguration, Bool.and_eq_true, List.all_eq_true, decide_eq_true_eq, and_assoc]

section
variable {m : Memory} (hm : isConfiguration m = true)
include hm

theorem memRead_gear_familyBase {b : Byte} (hb : b ∈ familyBases) : memRead m .gear b ≠ none := by
  obtain ⟨_, _, _, _, hbases, _⟩ := (isConfiguration_iff m).mp hm
  exact Option.isSome_iff_ne_none.mp (hbases b hb)

/-- R32, as a read. -/
theorem memRead_ctrl_above {a : Byte} (ha : 0x94 < a.toNat) : memRead m .ctrl a = none := by
  obtain ⟨_, _, _, _, _, hbound⟩ := (isConfiguration_iff m).mp hm
  cases hread : tableRead m.ctrl a.toNat with
  | none => simp [memRead, hread]
  | some n =>
    have hle : a.toNat ≤ 0x94 := hbound (a.toNat, n) (tableRead_mem m.ctrl a.toNat n hread)
    omega

/-- R250, as a read. -/
theorem memRead_isName {space : Space} {a : Byte} {e : RomEntry} (hread : memRead m space a = some e) :
    isName e.name = true := by
  obtain ⟨_, hgear, hctrl, hc1, _, _⟩ := (isConfiguration_iff m).mp hm
  cases space with
  | gear =>
    obtain ⟨n, hn, rfl⟩ := Option.map_eq_some_iff.mp hread
    exact hgear (a.toNat, n) (tableRead_mem m.gear a.toNat n hn)
  | ctrl =>
    obtain ⟨n, hn, rfl⟩ := Option.map_eq_some_iff.mp hread
    exact hctrl (a.toNat, n) (tableRead_mem m.ctrl a.toNat n hn)
  | c1 => exact hc1 (a.toNat, e) (tableRead_mem m.c1 a.toNat e hread)

end

/-- The names an image may not hold, as the refusals list them. -/
theorem not_isName {n : String}
    (h : n = "" ∨ n = "RESERVED" ∨ n.toList.head? = some '-' ∨ n.toList.head? = some ' ' ∨
      n.toList.getLast? = some ' ' ∨ ∃ c ∈ n.toList, c.toNat < 0x20 ∨ 0x7E < c.toNat) : ¬ isName n = true := by
  intro hname
  obtain ⟨hempty, hprintable, hhyphen, hleading, htrailing, hreserved⟩ := (isName_iff n).mp hname
  obtain rfl | rfl | h | h | h | ⟨c, hc, h⟩ := h
  · exact hempty rfl
  · exact hreserved rfl
  · exact hhyphen h
  · exact hleading h
  · exact htrailing h
  · have hrange := hprintable c hc
    omega

/-! ### Start-up -/

theorem powerUp_refuses {cfg : Config} (h : ¬ isConfiguration cfg.img = true) :
    State.powerUp cfg = .refused .notAConfiguration :=
  ((powerUp_cases cfg).resolve_left fun hc => h hc.1).2

theorem powerUp_starts {cfg : Config} (h : isConfiguration cfg.img = true) :
    State.powerUp cfg = .next { State.reset with cfg := cfg } :=
  ((powerUp_cases cfg).resolve_right (by simp [h])).2

/-- The reset state is safe with every configuration of the block, not only the default one. -/
theorem stateInv_reset_with {cfg : Config} (h : isConfiguration cfg.img = true) :
    StateInv { State.reset with cfg := cfg } :=
  ⟨resInv_cleared, ((isConfiguration_iff _).mp h).1, h⟩

/-- Settles O47: each refusal contradicts what a read of a configuration can answer. -/
theorem startUpRefusesBadImages : Obligations.StartUpRefusesBadImages := by
  unfold Obligations.StartUpRefusesBadImages
  intro cfg
  refine ⟨?refused, ?familyBase, ?ctrlAbove, ?badName, ?starts⟩
  case refused => exact fun h => powerUp_refuses (by simp [h])
  case familyBase =>
    exact fun b hb hread => powerUp_refuses fun hcfg => memRead_gear_familyBase hcfg hb hread
  case ctrlAbove =>
    intro a ha hread
    exact powerUp_refuses fun hcfg => by simp [memRead_ctrl_above hcfg ha] at hread
  case badName =>
    exact fun space a e hread hbad => powerUp_refuses fun hcfg => not_isName hbad (memRead_isName hcfg hread)
  case starts => exact fun h => ⟨_, powerUp_starts h, rfl, rfl, rfl, rfl, stateInv_reset_with h⟩

/-! ### The control-device table -/

/-- The resolver gives an addressed form its address kind and field (R112 to R115). -/
theorem specResolve_formByte (form : AddrForm) :
    specResolve form.byte = ((formPart form).akind, (formPart form).af1, (formPart form).af1v) := by
  cases form with
  | short a => revert a; decide
  | group x g => revert x g; decide
  | bcUnaddr => decide
  | bc => decide

/-- An addressed form fills the first field alone, so its record is the one the spec builds from the resolver (R98). -/
theorem record24_formPart (form : AddrForm) (cmd : CmdPart) (ib op ctx : Byte) :
    record24 (formPart form) cmd form.byte ib op ctx =
      frame24Record (specResolve form.byte) form.byte ib op cmd ctx := by
  rw [specResolve_formByte]
  cases form <;> rfl

/-- Settles O45: the read above 0x94 is a miss, and the row answers a miss with the placeholder's record. -/
theorem controlOpcodesAbove94Miss : Obligations.ControlOpcodesAbove94Miss := by
  unfold Obligations.ControlOpcodesAbove94Miss
  intro form ib op s hcfg hop
  have hmiss := memRead_ctrl_above hcfg hop
  have hexec := ((execG24Lut_cases form ib op s).resolve_left (by simp [hmiss])).2
  rw [← record24_formPart]
  exact hexec

end Sys2Proof.Proofs
end

section
/-! PROOF. No operation writes any memory (R43, R285). The only memory is the ROM image, which is part of the
configuration: a next state with the configuration of the state before it reads the same at every address. -/

namespace Sys2Proof.Proofs

open Sys2Proof.Machine

/-- An answer to a FRAME does not touch what the host has presented. -/
@[simp] theorem FrameAnswer.apply_input (s : State) (a : FrameAnswer) : (a.apply s).input = s.input := by
  cases a <;> rfl

/-- A row with an answer fixed by the image completes, and changes neither the configuration nor the input. -/
theorem Answered.keeps_cfg_input {f : State → Host.Outcome State Fault Refusal} {s : State}
    (h : Answered s.cfg.img f) : ∃ t, f s = .next t ∧ t.cfg = s.cfg ∧ t.input = s.input := by
  obtain ⟨a, -, hexec⟩ := h
  exact ⟨a.apply s, hexec s rfl, a.apply_cfg s, a.apply_input s⟩

/-- Every instruction, well formed or not, completes and changes neither the configuration nor the input: the three
port operations by their updates of `CTX` and `RES`, every other row by its answer. -/
theorem exec_keeps_cfg_input (i : Instr) (s : State) :
    ∃ t, exec i s = .next t ∧ t.cfg = s.cfg ∧ t.input = s.input := by
  cases i with
  | nop => exact ⟨s.idle, rfl, s.idle_cfg, s.idle_input⟩
  | loadCtx c => exact ⟨s.loadCtx c, rfl, s.loadCtx_cfg c, s.loadCtx_input c⟩
  | sreset => exact ⟨s.sessionReset, rfl, s.sessionReset_cfg, s.sessionReset_input⟩
  | _ => exact (frameRow_answered s.cfg.img _ rfl).keeps_cfg_input

/-- Reads depend on the configuration alone (R41). -/
theorem memRead_congr_cfg {s t : State} (h : t.cfg = s.cfg) (space : Space) (a : Byte) :
    memRead t.cfg.img space a = memRead s.cfg.img space a := by
  rw [h]

/-- Settles O26: an instruction keeps the configuration row by row, a step because its effect does. -/
theorem noOperationWritesMemory : Obligations.NoOperationWritesMemory := by
  unfold Obligations.NoOperationWritesMemory
  refine ⟨fun i s => ?instruction, fun s p rest hinput => ?step⟩
  case instruction =>
    obtain ⟨t, hexec, hcfg, hin⟩ := exec_keeps_cfg_input i s
    exact ⟨t, hexec, hcfg, hin, memRead_congr_cfg hcfg⟩
  case step =>
    obtain ⟨t, hstep, heffect⟩ := step_effect hinput
    have hcfg : t.cfg = s.cfg := heffect.cfg_eq
    exact ⟨t, hstep, hcfg, memRead_congr_cfg hcfg⟩

end Sys2Proof.Proofs
end

section
/-! PROOF. Decoding is a left inverse of encoding. A word built from the formats R65 to R70 has its fields back, so
`decode` of an encoded row comes down to the class of its address byte (R74), of its event selector (R73) or of its
INITIALISE opcode (R171); the bytes that are only echoed play no part in that choice. -/

namespace Sys2Proof.Proofs

open Sys2Proof.Machine Sys2Proof.Laws

/-! ### The decoder on words in their formats -/

theorem decode_frameWord (len : Byte) (v : Value) : decode (frameWord len v) = decodeFrame len v := by
  rw [decode_of_frame (opSel_frameWord len v), opLen_frameWord, opValue_frameWord]

theorem decode_loadCtxWord (c : Byte) : decode (2#2 ++ 0#24 ++ c) = .loadCtx c := by
  have hsel : opSel (2#2 ++ 0#24 ++ c) = 2#2 :=
    (extract_append_high (2#2 ++ 0#24) c 32 2 (by decide)).trans (by decide)
  rw [decode_of_loadCtx hsel]
  exact congrArg Instr.loadCtx ((extract_append_low (2#2 ++ 0#24) c 0 8 (by decide)).trans (extract_all c))

theorem decodeFrame_8 (v : Value) :
    decodeFrame 8#8 v = if v.extractLsb' 8 16 = 0#16 then .f8Data (byteLo v) else .f8ErrRange v :=
  if_pos rfl

theorem decodeFrame_16 (v : Value) :
    decodeFrame 16#8 v = if byteHi v = 0#8 then decode16 (byteMid v) (byteLo v) else .f16ErrRange v :=
  (if_neg (by decide)).trans (if_pos rfl)

theorem decodeFrame_24 (v : Value) :
    decodeFrame 24#8 v =
      if v.extractLsb' 16 1 = 0#1 then decodeEvent v else decode24Odd (byteHi v) (byteMid v) (byteLo v) :=
  (if_neg (by decide)).trans ((if_neg (by decide)).trans (if_pos rfl))

theorem decodeFrame_badLen {len : Byte} (v : Value) (h8 : len ≠ 8#8) (h16 : len ≠ 16#8) (h24 : len ≠ 24#8) :
    decodeFrame len v = .fErrLen len := by
  simp [decodeFrame, h8, h16, h24]

theorem decode_word16 (ab op : Byte) : decode (word16 ab op) = decode16 ab op := by
  simp [word16, decode_frameWord, decodeFrame_16]

theorem value_selector_of_odd {ab : Byte} (ib op : Byte) (hodd : ab.getLsbD 0 = true) :
    (ab ++ ib ++ op : Value).extractLsb' 16 1 ≠ 0#1 := fun heven => by
  have hlow := byteHi_even_of_selector heven
  rw [byteHi_append] at hlow
  exact absurd (hodd.symm.trans hlow) (by decide)

theorem decode_word24 {ab : Byte} (ib op : Byte) (hodd : ab.getLsbD 0 = true) :
    decode (word24 ab ib op) = decode24Odd ab ib op := by
  simp [word24, decode_frameWord, decodeFrame_24, value_selector_of_odd ib op hodd]

/-! ### The range of a value (R64), as its high bytes -/

theorem lt_two_pow_iff_high_zero {m n : Nat} (v : BitVec (m + n)) : v.toNat < 2 ^ n ↔ v.extractLsb' n m = 0#m := by
  rw [BitVec.toNat_eq, BitVec.extractLsb'_toNat, Nat.shiftRight_eq_div_pow, BitVec.toNat_ofNat, Nat.zero_mod,
    Nat.mod_eq_of_lt (Nat.div_lt_of_lt_mul (by simpa [Nat.pow_add, Nat.mul_comm] using v.isLt)),
    Nat.div_eq_zero_iff_lt (by positivity)]

theorem value_lt_8_iff (v : Value) : v.toNat < 2 ^ 8 ↔ v.extractLsb' 8 16 = 0#16 :=
  lt_two_pow_iff_high_zero (m := 16) (n := 8) v

theorem value_lt_16_iff (v : Value) : v.toNat < 2 ^ 16 ↔ byteHi v = 0#8 :=
  lt_two_pow_iff_high_zero (m := 8) (n := 16) v

/-! ### The echoed bytes do not choose the row -/

/-- The row `i` of a command frame with other echoed bytes: the same address byte, other `ib` and `op`. -/
def withBytes (ib op : Byte) : Instr → Instr
  | .a16Short a _ => .a16Short a op
  | .a16Group x g _ => .a16Group x g op
  | .a16BcUnaddr _ => .a16BcUnaddr op
  | .a16Bc _ => .a16Bc op
  | .a16UnmatchedC0 _ => .a16UnmatchedC0 op
  | .a16Special n _ => .a16Special n op
  | .a16UnmatchedE0 _ => .a16UnmatchedE0 op
  | .a16ReservedE n _ => .a16ReservedE n op
  | .a16UnmatchedF0 _ => .a16UnmatchedF0 op
  | .a16ReservedF1 n _ => .a16ReservedF1 n op
  | .a16ReservedF8 n _ => .a16ReservedF8 n op
  | .a16Unmatched ab _ => .a16Unmatched ab op
  | .a24Short a _ _ => .a24Short a ib op
  | .a24Group x g _ _ => .a24Group x g ib op
  | .a24BcUnaddr _ _ => .a24BcUnaddr ib op
  | .a24Bc _ _ => .a24Bc ib op
  | .s24DirectWrite _ _ => .s24DirectWrite ib op
  | .s24Dtr1Dtr0 _ _ => .s24Dtr1Dtr0 ib op
  | .s24Dtr2Dtr1 _ _ => .s24Dtr2Dtr1 ib op
  | .s24Unknown n _ _ => .s24Unknown n ib op
  | .a24ReservedE n _ _ => .a24ReservedE n ib op
  | .a24ReservedF1 n _ _ => .a24ReservedF1 n ib op
  | .a24ReservedF9 n _ _ => .a24ReservedF9 n ib op
  | i => i

/-- The class of a 16-bit frame is its address byte's (R74). -/
theorem decode16_withBytes (ab ib op : Byte) : decode16 ab op = withBytes ib op (decode16 ab 0#8) := by
  simp only [decode16, apply_ite (withBytes ib op)]
  rfl

/-- So is the class of a 24-bit command frame, outside the special command 0xC1 (R74, R78). -/
theorem decode24Odd_withBytes {ab : Byte} (ib op : Byte) (hC1 : ab ≠ 0xC1#8) :
    decode24Odd ab ib op = withBytes ib op (decode24Odd ab 0#8 0#8) := by
  simp only [decode24Odd, if_neg hC1, apply_ite (withBytes ib op)]
  rfl

/-- The class of an address byte in a 16-bit frame, read off at the opcode byte 0. -/
theorem decode16_of_class {ab : Byte} {i : Instr} (op : Byte) (h : decode16 ab 0#8 = i) :
    decode16 ab op = withBytes 0#8 op i := h ▸ decode16_withBytes ab 0#8 op

/-- The class of an odd address byte in a 24-bit frame, read off at `ib = 0` and `op = 0`. -/
theorem decode_word24_of_class {ab : Byte} {i : Instr} (ib op : Byte)
    (h : ab.getLsbD 0 = true ∧ ab ≠ 0xC1#8 ∧ decode24Odd ab 0#8 0#8 = i) :
    decode (word24 ab ib op) = withBytes ib op i := by
  obtain ⟨hodd, hC1, rfl⟩ := h
  rw [decode_word24 ib op hodd, decode24Odd_withBytes ib op hC1]

/-! ### Classes of address bytes (R74) -/

theorem decode16_short (a : BitVec 6) (op : Byte) : decode16 (AddrForm.short a).byte op = .a16Short a op :=
  decode16_of_class op (i := .a16Short a 0#8) (by revert a; decide)

theorem decode16_group (x : BitVec 1) (g : BitVec 4) (op : Byte) :
    decode16 (AddrForm.group x g).byte op = .a16Group x g op :=
  decode16_of_class op (i := .a16Group x g 0#8) (by revert x g; decide)

theorem decode16_special {n : BitVec 5} (hn : n ≠ 0#5) (op : Byte) : decode16 (6#3 ++ n) op = .a16Special n op :=
  decode16_of_class op (i := .a16Special n 0#8) (by revert n; decide)

theorem decode16_reservedE {n : BitVec 4} (hn : n ≠ 0#4) (op : Byte) :
    decode16 (14#4 ++ n) op = .a16ReservedE n op :=
  decode16_of_class op (i := .a16ReservedE n 0#8) (by revert n; decide)

theorem decode16_reservedF1 {n : BitVec 3} (hn : n ≠ 0#3) (op : Byte) :
    decode16 (30#5 ++ n) op = .a16ReservedF1 n op :=
  decode16_of_class op (i := .a16ReservedF1 n 0#8) (by revert n; decide)

theorem decode16_reservedF8 (n : BitVec 2) (op : Byte) : decode16 (62#6 ++ n) op = .a16ReservedF8 n op :=
  decode16_of_class op (i := .a16ReservedF8 n 0#8) (by revert n; decide)

theorem decode16_unmatched {ab : Byte} (hab : isUnmatchedRest ab = true) (op : Byte) :
    decode16 ab op = .a16Unmatched ab op :=
  decode16_of_class op (i := .a16Unmatched ab 0#8) (by revert ab; decide)

theorem decode_a24Short (a : BitVec 6) (ib op : Byte) :
    decode (word24 (AddrForm.short a).byte ib op) = .a24Short a ib op :=
  decode_word24_of_class ib op (i := .a24Short a 0#8 0#8) (by revert a; decide)

theorem decode_a24Group (x : BitVec 1) (g : BitVec 4) (ib op : Byte) :
    decode (word24 (AddrForm.group x g).byte ib op) = .a24Group x g ib op :=
  decode_word24_of_class ib op (i := .a24Group x g 0#8 0#8) (by revert x g; decide)

theorem decode_s24Unknown {n : BitVec 4} (hn : (n != 0#4 && n != 2#4 && n != 3#4 && n != 4#4) = true) (ib op : Byte) :
    decode (word24 (6#3 ++ n ++ 1#1) ib op) = .s24Unknown n ib op :=
  decode_word24_of_class ib op (i := .s24Unknown n 0#8 0#8) (by revert n; decide)

theorem decode_a24ReservedE (n : BitVec 3) (ib op : Byte) :
    decode (word24 (14#4 ++ n ++ 1#1) ib op) = .a24ReservedE n ib op :=
  decode_word24_of_class ib op (i := .a24ReservedE n 0#8 0#8) (by revert n; decide)

theorem decode_a24ReservedF1 (n : BitVec 2) (ib op : Byte) :
    decode (word24 (30#5 ++ n ++ 1#1) ib op) = .a24ReservedF1 n ib op :=
  decode_word24_of_class ib op (i := .a24ReservedF1 n 0#8 0#8) (by revert n; decide)

theorem decode_a24ReservedF9 (n : BitVec 1) (ib op : Byte) :
    decode (word24 (62#6 ++ n ++ 1#1) ib op) = .a24ReservedF9 n ib op :=
  decode_word24_of_class ib op (i := .a24ReservedF9 n 0#8 0#8) (by revert n; decide)

/-! ### The special command 0xC1 (R78) -/

theorem decode_initialiseWord (op : Byte) : decode (word24 0xC1#8 0x01#8 op) = decodeInitialise op :=
  decode_word24 0x01#8 op (by decide)

theorem decode_s24C1Lut {ib : Byte} (hib : ib ≠ 0x01#8) (op : Byte) :
    decode (word24 0xC1#8 ib op) = .s24C1Lut ib op :=
  (decode_word24 ib op (by decide)).trans (if_neg hib)

theorem decodeInitialise_one (k : BitVec 6) : decodeInitialise (0#1 ++ k ++ 1#1) = .s24InitialiseOne k := by
  revert k
  decide

theorem decodeInitialise_none {op : Byte}
    (hop : (op != 0xFF#8 && op != 0x00#8 && op &&& 0x81#8 != 0x01#8) = true) :
    decodeInitialise op = .s24InitialiseNone op := by
  revert op
  decide

/-! ### Events (R68, R69, R73) -/

/-- The bits of an event value that the power-cycle constant fixes (R69). -/
theorem eventValue_pattern (s23 s22 : BitVec 1) (f1 : BitVec 5) (s15 : BitVec 1) (f2 : BitVec 5) (ev : BitVec 10) :
    (eventValue s23 s22 f1 s15 f2 ev).extractLsb' 13 11 =
      s23 ++ s22 ++ f1 ++ 0#1 ++ s15 ++ f2.extractLsb' 3 2 := by
  have hhigh : (eventValue s23 s22 f1 s15 f2 ev).extractLsb' 15 9 = s23 ++ s22 ++ f1 ++ 0#1 ++ s15 :=
    (extract_append_high (s23 ++ s22 ++ f1 ++ 0#1 ++ s15 ++ f2) ev 15 9 (by decide)).trans
      ((extract_append_high (s23 ++ s22 ++ f1 ++ 0#1 ++ s15) f2 5 9 (by decide)).trans (extract_all _))
  have hlow : (eventValue s23 s22 f1 s15 f2 ev).extractLsb' 13 2 = f2.extractLsb' 3 2 :=
    (extract_append_high (s23 ++ s22 ++ f1 ++ 0#1 ++ s15 ++ f2) ev 13 2 (by decide)).trans
      (extract_append_low (s23 ++ s22 ++ f1 ++ 0#1 ++ s15) f2 3 2 (by decide))
  rw [← hhigh, ← hlow]
  exact (extract_append_extract _ 13 9 2).symm

/-- The one event value that is no event: the exception of R141. -/
theorem eventValue_isPowerCycle_iff (s23 s22 : BitVec 1) (f1 : BitVec 5) (s15 : BitVec 1) (f2 : BitVec 5)
    (ev : BitVec 10) : (eventValue s23 s22 f1 s15 f2 ev).extractLsb' 13 11 = 0x7F7#11 ↔
      s23 = 1#1 ∧ s22 = 1#1 ∧ f1 = 31#5 ∧ s15 = 1#1 ∧ f2.extractLsb' 3 2 = 3#2 := by
  rw [eventValue_pattern]
  generalize f2.extractLsb' 3 2 = g2
  revert s23 s22 f1 s15 g2
  decide

/-- The event tree on an event value (R73). -/
theorem decodeEvent_eventValue {s23 s22 : BitVec 1} {f1 : BitVec 5} {s15 : BitVec 1} {f2 : BitVec 5} {ev : BitVec 10}
    (h : ¬ (s23 = 1#1 ∧ s22 = 1#1 ∧ f1 = 31#5 ∧ s15 = 1#1 ∧ f2.extractLsb' 3 2 = 3#2)) :
    decodeEvent (eventValue s23 s22 f1 s15 f2 ev) =
      if s23 = 1#1 then
        if s22 = 1#1 then if s15 = 1#1 then .e24Reserved f1 f2 ev else .e24InstanceGroup f1 f2 ev
        else if s15 = 1#1 then .e24Instance f1 f2 ev else .e24DeviceGroup f1 f2 ev
      else if s15 = 1#1 then .e24DeviceInstance s22 f1 f2 ev else .e24Device s22 f1 f2 ev := by
  simp only [decodeEvent, eventValue_isPowerCycle_iff, eventValue_s23, eventValue_s22, eventValue_f1, eventValue_s15,
    eventValue_f2, eventValue_ev, if_neg h]

theorem decode_eventWord (s23 s22 : BitVec 1) (f1 : BitVec 5) (s15 : BitVec 1) (f2 : BitVec 5) (ev : BitVec 10) :
    decode (frameWord 24#8 (eventValue s23 s22 f1 s15 f2 ev)) = decodeEvent (eventValue s23 s22 f1 s15 f2 ev) :=
  (decode_frameWord _ _).trans ((decodeFrame_24 _).trans (if_pos (eventValue_selector s23 s22 f1 s15 f2 ev)))

theorem decodeEvent_powerCycleValue (gv : BitVec 1) (g : BitVec 5) (av : BitVec 1) (a : BitVec 6) :
    decodeEvent (powerCycleValue gv g av a) = .e24PowerCycle gv g av a := by
  simp only [decodeEvent, powerCycleValue_pattern, powerCycleValue_gv, powerCycleValue_g, powerCycleValue_av,
    powerCycleValue_a, if_true]

/-! ### Stage `top` -/

/-- Settles O27, row by row. -/
theorem decodeEncodeRoundTrip : Obligations.DecodeEncodeRoundTrip := by
  unfold Obligations.DecodeEncodeRoundTrip
  intro i htop hwf
  have gear (ab op : Byte) {j : Instr} (h : decode16 ab op = j) : decode (word16 ab op) = j :=
    (decode_word16 ab op).trans h
  have event {s23 s22 f1 s15 f2 ev} (h : ¬ (s23 = 1#1 ∧ s22 = 1#1 ∧ f1 = 31#5 ∧ s15 = 1#1 ∧ f2.extractLsb' 3 2 = 3#2)) :=
    (decode_eventWord s23 s22 f1 s15 f2 ev).trans (decodeEvent_eventValue h)
  cases i with
  | nop => rfl
  | loadCtx c => exact decode_loadCtxWord c
  | sreset => rfl
  | f8Data data =>
    rw [encode, decode_frameWord, decodeFrame_8, if_pos (highHalf_data data), byteLo_data]
  | f8ErrRange v =>
    have hrange : ¬ v.toNat < 2 ^ 8 := by simpa [Instr.wellFormed] using hwf
    rw [encode, decode_frameWord, decodeFrame_8, if_neg (mt (value_lt_8_iff v).mpr hrange)]
  | a16Short a op => exact gear _ op (decode16_short a op)
  | a16Group x g op => exact gear _ op (decode16_group x g op)
  | a16BcUnaddr op => exact gear _ op rfl
  | a16Bc op => exact gear _ op rfl
  | a16UnmatchedC0 op => exact gear _ op rfl
  | a16Special n op => exact gear _ op (decode16_special (bne_iff_ne.mp hwf) op)
  | a16UnmatchedE0 op => exact gear _ op rfl
  | a16ReservedE n op => exact gear _ op (decode16_reservedE (bne_iff_ne.mp hwf) op)
  | a16UnmatchedF0 op => exact gear _ op rfl
  | a16ReservedF1 n op => exact gear _ op (decode16_reservedF1 (bne_iff_ne.mp hwf) op)
  | a16ReservedF8 n op => exact gear _ op (decode16_reservedF8 n op)
  | a16Unmatched ab op => exact gear _ op (decode16_unmatched hwf op)
  | f16ErrRange v =>
    have hrange : ¬ v.toNat < 2 ^ 16 := by simpa [Instr.wellFormed] using hwf
    rw [encode, decode_frameWord, decodeFrame_16, if_neg (mt (value_lt_16_iff v).mpr hrange)]
  | e24PowerCycle gv g av a =>
    rw [encode, decode_frameWord, decodeFrame_24, if_pos (powerCycleValue_selector gv g av a),
      decodeEvent_powerCycleValue]
  | e24Reserved f1 f2 ev =>
    have hpattern : ¬ (f1 = 31#5 ∧ f2.extractLsb' 3 2 = 3#2) := by simpa [Instr.wellFormed, ← not_and_or] using hwf
    exact event fun ⟨_, _, hf1, _, hf2⟩ => hpattern ⟨hf1, hf2⟩
  | e24InstanceGroup f1 f2 ev => exact event (by simp)
  | e24Instance f1 f2 ev => exact event (by simp)
  | e24DeviceGroup f1 f2 ev => exact event (by simp)
  | e24DeviceInstance s22 f1 f2 ev => exact event (by simp)
  | e24Device s22 f1 f2 ev => exact event (by simp)
  | a24Short a ib op => exact decode_a24Short a ib op
  | a24Group x g ib op => exact decode_a24Group x g ib op
  | a24BcUnaddr ib op => exact decode_word24 ib op (by decide)
  | a24Bc ib op => exact decode_word24 ib op (by decide)
  | s24InitialiseUnaddressed => exact decode_initialiseWord _
  | s24InitialiseAll => exact decode_initialiseWord _
  | s24InitialiseOne k => exact (decode_initialiseWord _).trans (decodeInitialise_one k)
  | s24InitialiseNone op => exact (decode_initialiseWord op).trans (decodeInitialise_none hwf)
  | s24C1Lut ib op => exact decode_s24C1Lut (bne_iff_ne.mp hwf) op
  | s24DirectWrite ib op => exact decode_word24 ib op (by decide)
  | s24Dtr1Dtr0 ib op => exact decode_word24 ib op (by decide)
  | s24Dtr2Dtr1 ib op => exact decode_word24 ib op (by decide)
  | s24Unknown n ib op => exact decode_s24Unknown hwf ib op
  | a24ReservedE n ib op => exact decode_a24ReservedE n ib op
  | a24ReservedF1 n ib op => exact decode_a24ReservedF1 n ib op
  | a24ReservedF9 n ib op => exact decode_a24ReservedF9 n ib op
  | fErrLen len =>
    obtain ⟨⟨h8, h16⟩, h24⟩ : (len ≠ 8#8 ∧ len ≠ 16#8) ∧ len ≠ 24#8 := by simpa [Instr.wellFormed] using hwf
    exact (decode_frameWord len 0#24).trans (decodeFrame_badLen 0#24 h8 h16 h24)
  | _ => cases htop

/-! ### Stages `G16` and `G24` -/

theorem nibbles_and_mask (h k : BitVec 4) : (h ++ k) &&& 0xF0#8 = h ++ 0#4 :=
  and_eq_of_parts (x2 := 0xF#4) (y2 := 0#4) BitVec.and_allOnes BitVec.and_zero

/-- The opcode byte of a family member: its high nibble is the base's, its low nibble the counter (R153). -/
theorem decodeG16_nibbles (form : AddrForm) (h k : BitVec 4) : decodeG16 form (h ++ k) =
    if h = 1#4 then .g16GotoScene form k
    else if h = 4#4 then .g16SetScene form k
    else if h = 5#4 then .g16RemoveScene form k
    else if h = 6#4 then .g16AddGroup form k
    else if h = 7#4 then .g16RemoveGroup form k
    else if h = 11#4 then .g16QuerySceneLevel form k
    else .g16Lut form (h ++ k) := by
  have hbase (b : BitVec 4) : ((h ++ k) &&& 0xF0#8 = b ++ 0#4) = (h = b) := by
    rw [nibbles_and_mask, BitVec.append_left_inj]
  have hcounter : (h ++ k : Byte).extractLsb' 0 4 = k := (extract_append_low h k 0 4 (by decide)).trans (extract_all k)
  unfold decodeG16
  rw [hcounter]
  simp only [← hbase]
  rfl

theorem decodeG16_lut (form : AddrForm) {op : Byte} (hop : isFamily op = false) : decodeG16 form op = .g16Lut form op := by
  simp only [isFamily, Bool.or_eq_false_iff, beq_eq_false_iff_ne] at hop
  obtain ⟨⟨⟨⟨⟨h1, h4⟩, h5⟩, h6⟩, h7⟩, hB⟩ := hop
  simp only [decodeG16, if_neg h1, if_neg h4, if_neg h5, if_neg h6, if_neg h7, if_neg hB]

theorem decodeStage_word16 (form : AddrForm) (op : Byte) :
    decodeStage (word16 form.byte op) = some (decodeG16 form op) := by
  unfold decodeStage
  rw [decode_word16]
  cases form with
  | short a => rw [decode16_short]; rfl
  | group x g => rw [decode16_group]; rfl
  | bcUnaddr => rfl
  | bc => rfl

theorem decodeStage_word24 (form : AddrForm) (ib op : Byte) :
    decodeStage (word24 form.byte ib op) = some (.g24Lut form ib op) := by
  unfold decodeStage
  cases form with
  | short a => rw [decode_a24Short]; rfl
  | group x g => rw [decode_a24Group]; rfl
  | bcUnaddr => rw [decode_word24 ib op (by decide)]; rfl
  | bc => rw [decode_word24 ib op (by decide)]; rfl

/-- Settles O28, row by row. -/
theorem stageDecodeEncodeRoundTrip : Obligations.StageDecodeEncodeRoundTrip := by
  unfold Obligations.StageDecodeEncodeRoundTrip
  intro i hstage hwf
  have family (form : AddrForm) (h k : BitVec 4) :
      decodeStage (word16 form.byte (h ++ k)) = some (decodeG16 form (h ++ k)) := decodeStage_word16 form (h ++ k)
  simp only [decodeG16_nibbles] at family
  cases i with
  | g16GotoScene form k => exact family form 1#4 k
  | g16SetScene form k => exact family form 4#4 k
  | g16RemoveScene form k => exact family form 5#4 k
  | g16AddGroup form k => exact family form 6#4 k
  | g16RemoveGroup form k => exact family form 7#4 k
  | g16QuerySceneLevel form k => exact family form 11#4 k
  | g16Lut form op =>
    have hop : isFamily op = false := by simpa [Instr.wellFormed] using hwf
    exact (decodeStage_word16 form op).trans (congrArg some (decodeG16_lut form hop))
  | g24Lut form ib op => exact decodeStage_word24 form ib op
  | _ => cases hstage

end Sys2Proof.Proofs
end

section
/-! PROOF. Decoding loses nothing: every word decodes to a well-formed row of stage `top` (R81), and a FRAME of supported
length is spelled by the row it decodes to (R80). Each leaf of the decoder's case tree is one fact about a byte or a
value: the bits its mask fixes and the bits it takes out make up the whole. -/

namespace Sys2Proof.Proofs

open Sys2Proof.Machine Sys2Proof.Laws

/-! ### Rows that spell a word -/

/-- `i` is a well-formed row of stage `top` and `w` is its word. -/
structure Spells (i : Instr) (w : OpWord) : Prop where
  top : i.isTop = true
  wellFormed : i.wellFormed = true
  encode_eq : encode i = w

/-- What a branch of the decoder has to show, and what it may use. -/
theorem Spells.ite {c : Prop} [Decidable c] {i j : Instr} {w : OpWord} (hi : c → Spells i w) (hj : ¬ c → Spells j w) :
    Spells (if c then i else j) w := by
  by_cases h : c
  · rw [if_pos h]
    exact hi h
  · rw [if_neg h]
    exact hj h

/-! ### Address bytes from their fields (R74) -/

theorem shortByte_of_mask : ∀ ab : Byte, ab &&& 0x81#8 = 0x01#8 → (AddrForm.short (ab.extractLsb' 1 6)).byte = ab := by
  decide

theorem groupByte_of_mask : ∀ ab : Byte, ab &&& 0xC1#8 = 0x81#8 →
    (AddrForm.group (ab.extractLsb' 5 1) (ab.extractLsb' 1 4)).byte = ab := by
  decide

theorem specialByte_of_mask : ∀ ab : Byte, ab ≠ 0xC0#8 → ab &&& 0xE0#8 = 0xC0#8 →
    ab.extractLsb' 0 5 ≠ 0#5 ∧ 6#3 ++ ab.extractLsb' 0 5 = ab := by
  decide

theorem reservedEByte_of_mask : ∀ ab : Byte, ab ≠ 0xE0#8 → ab &&& 0xF0#8 = 0xE0#8 →
    ab.extractLsb' 0 4 ≠ 0#4 ∧ 14#4 ++ ab.extractLsb' 0 4 = ab := by
  decide

theorem reservedF1Byte_of_mask : ∀ ab : Byte, ab ≠ 0xF0#8 → ab &&& 0xF8#8 = 0xF0#8 →
    ab.extractLsb' 0 3 ≠ 0#3 ∧ 30#5 ++ ab.extractLsb' 0 3 = ab := by
  decide

theorem reservedF8Byte_of_mask : ∀ ab : Byte, ab &&& 0xFC#8 = 0xF8#8 → 62#6 ++ ab.extractLsb' 0 2 = ab := by
  decide

/-- What no other 16-bit row takes (R118). -/
theorem isUnmatchedRest_of_misses : ∀ ab : Byte,
    (ab &&& 0x81#8 != 0x01#8 && ab &&& 0xC1#8 != 0x81#8 && ab != 0xFD#8 && ab != 0xFF#8 && ab &&& 0xE0#8 != 0xC0#8 &&
      ab &&& 0xF0#8 != 0xE0#8 && ab &&& 0xF8#8 != 0xF0#8 && ab &&& 0xFC#8 != 0xF8#8) = true →
    isUnmatchedRest ab = true := by
  decide

theorem unknownByte_of_mask : ∀ ab : Byte, ab ≠ 0xC1#8 → ab ≠ 0xC5#8 → ab ≠ 0xC7#8 → ab ≠ 0xC9#8 →
    ab &&& 0xE1#8 = 0xC1#8 →
    (Instr.s24Unknown (ab.extractLsb' 1 4) 0#8 0#8).wellFormed = true ∧ 6#3 ++ ab.extractLsb' 1 4 ++ 1#1 = ab := by
  decide

theorem a24ReservedEByte_of_mask : ∀ ab : Byte, ab &&& 0xF1#8 = 0xE1#8 → 14#4 ++ ab.extractLsb' 1 3 ++ 1#1 = ab := by
  decide

theorem a24ReservedF1Byte_of_mask : ∀ ab : Byte, ab &&& 0xF9#8 = 0xF1#8 → 30#5 ++ ab.extractLsb' 1 2 ++ 1#1 = ab := by
  decide

/-- The odd bytes that no other 24-bit row takes (R117). -/
theorem a24ReservedF9_of_misses : ∀ ab : Byte, ab.getLsbD 0 = true → ab &&& 0x81#8 ≠ 0x01#8 → ab &&& 0xC1#8 ≠ 0x81#8 →
    ab ≠ 0xFD#8 → ab ≠ 0xFF#8 → ab &&& 0xE1#8 ≠ 0xC1#8 → ab &&& 0xF1#8 ≠ 0xE1#8 → ab &&& 0xF9#8 ≠ 0xF1#8 →
    ab &&& 0xFD#8 = 0xF9#8 ∧ 62#6 ++ ab.extractLsb' 1 1 ++ 1#1 = ab := by
  decide

theorem initialiseOneByte_of_mask : ∀ op : Byte, op &&& 0x81#8 = 0x01#8 → 0#1 ++ op.extractLsb' 1 6 ++ 1#1 = op := by
  decide

/-! ### The classes of a frame -/

theorem decode16_spells (ab op : Byte) : Spells (decode16 ab op) (word16 ab op) := by
  have word {b : Byte} (hb : b = ab) : word16 b op = word16 ab op := congrArg (word16 · op) hb
  unfold decode16
  refine .ite (fun h => ⟨rfl, rfl, word (shortByte_of_mask ab h)⟩) fun hshort => ?_
  refine .ite (fun h => ⟨rfl, rfl, word (groupByte_of_mask ab h)⟩) fun hgroup => ?_
  refine .ite (fun h => ⟨rfl, rfl, word h.symm⟩) fun hFD => ?_
  refine .ite (fun h => ⟨rfl, rfl, word h.symm⟩) fun hFF => ?_
  refine .ite (fun h => ⟨rfl, rfl, word h.symm⟩) fun hC0 => ?_
  refine .ite (fun h => ?_) fun hC => ?_
  · obtain ⟨hn, hbyte⟩ := specialByte_of_mask ab hC0 h
    exact ⟨rfl, bne_iff_ne.mpr hn, word hbyte⟩
  refine .ite (fun h => ⟨rfl, rfl, word h.symm⟩) fun hE0 => ?_
  refine .ite (fun h => ?_) fun hE => ?_
  · obtain ⟨hn, hbyte⟩ := reservedEByte_of_mask ab hE0 h
    exact ⟨rfl, bne_iff_ne.mpr hn, word hbyte⟩
  refine .ite (fun h => ⟨rfl, rfl, word h.symm⟩) fun hF0 => ?_
  refine .ite (fun h => ?_) fun hF1 => ?_
  · obtain ⟨hn, hbyte⟩ := reservedF1Byte_of_mask ab hF0 h
    exact ⟨rfl, bne_iff_ne.mpr hn, word hbyte⟩
  refine .ite (fun h => ⟨rfl, rfl, word (reservedF8Byte_of_mask ab h)⟩) fun hF8 => ?_
  exact ⟨rfl, isUnmatchedRest_of_misses ab (by simp [hshort, hgroup, hFD, hFF, hC, hE, hF1, hF8]), rfl⟩

theorem decodeInitialise_spells (op : Byte) : Spells (decodeInitialise op) (word24 0xC1#8 0x01#8 op) := by
  have word {b : Byte} (hb : b = op) : word24 0xC1#8 0x01#8 b = word24 0xC1#8 0x01#8 op :=
    congrArg (word24 0xC1#8 0x01#8) hb
  unfold decodeInitialise
  refine .ite (fun h => ⟨rfl, rfl, word h.symm⟩) fun hFF => ?_
  refine .ite (fun h => ⟨rfl, rfl, word h.symm⟩) fun h00 => ?_
  refine .ite (fun h => ⟨rfl, rfl, word (initialiseOneByte_of_mask op h)⟩) fun hone => ?_
  exact ⟨rfl, by simp [Instr.wellFormed, hFF, h00, hone], rfl⟩

theorem decode24Odd_spells {ab : Byte} (ib op : Byte) (hodd : ab.getLsbD 0 = true) :
    Spells (decode24Odd ab ib op) (word24 ab ib op) := by
  have word {b : Byte} (hb : b = ab) : word24 b ib op = word24 ab ib op := congrArg (word24 · ib op) hb
  unfold decode24Odd
  refine .ite (fun h => ⟨rfl, rfl, word (shortByte_of_mask ab h)⟩) fun hshort => ?_
  refine .ite (fun h => ⟨rfl, rfl, word (groupByte_of_mask ab h)⟩) fun hgroup => ?_
  refine .ite (fun h => ⟨rfl, rfl, word h.symm⟩) fun hFD => ?_
  refine .ite (fun h => ⟨rfl, rfl, word h.symm⟩) fun hFF => ?_
  refine .ite (fun hC1 => ?_) fun hC1 => ?_
  · subst hC1
    refine .ite (fun hib => ?_) fun hib => ⟨rfl, bne_iff_ne.mpr hib, rfl⟩
    subst hib
    exact decodeInitialise_spells op
  refine .ite (fun h => ⟨rfl, rfl, word h.symm⟩) fun hC5 => ?_
  refine .ite (fun h => ⟨rfl, rfl, word h.symm⟩) fun hC7 => ?_
  refine .ite (fun h => ⟨rfl, rfl, word h.symm⟩) fun hC9 => ?_
  refine .ite (fun h => ?_) fun hC => ?_
  · obtain ⟨hwf, hbyte⟩ := unknownByte_of_mask ab hC1 hC5 hC7 hC9 h
    exact ⟨rfl, hwf, word hbyte⟩
  refine .ite (fun h => ⟨rfl, rfl, word (a24ReservedEByte_of_mask ab h)⟩) fun hE => ?_
  refine .ite (fun h => ⟨rfl, rfl, word (a24ReservedF1Byte_of_mask ab h)⟩) fun hF1 => ?_
  obtain ⟨-, hbyte⟩ := a24ReservedF9_of_misses ab hodd hshort hgroup hFD hFF hC hE hF1
  exact ⟨rfl, rfl, word hbyte⟩

theorem powerCycleValue_eta {v : Value} (h : v.extractLsb' 13 11 = 0x7F7#11) :
    powerCycleValue (v.extractLsb' 12 1) (v.extractLsb' 7 5) (v.extractLsb' 6 1) (v.extractLsb' 0 6) = v := by
  have h12 : v.extractLsb' 13 11 ++ v.extractLsb' 12 1 = v.extractLsb' 12 12 := extract_append_extract v 12 11 1
  have h7 : v.extractLsb' 12 12 ++ v.extractLsb' 7 5 = v.extractLsb' 7 17 := extract_append_extract v 7 12 5
  have h6 : v.extractLsb' 7 17 ++ v.extractLsb' 6 1 = v.extractLsb' 6 18 := extract_append_extract v 6 17 1
  have h0 : v.extractLsb' 6 18 ++ v.extractLsb' 0 6 = v := append_extract (m := 18) (n := 6) v
  unfold powerCycleValue
  rw [← h, h12, h7, h6]
  exact h0

/-- A bit that is not 1. -/
theorem bit_eq_zero_of_ne_one : ∀ {b : BitVec 1}, b ≠ 1#1 → b = 0#1 := by decide

/-- An event value is not the power-cycle pattern when its category is the reserved one and its row is well formed. -/
theorem e24Reserved_wellFormed_of_pattern {v : Value} (heven : v.extractLsb' 16 1 = 0#1)
    (hpattern : v.extractLsb' 13 11 ≠ 0x7F7#11) (h23 : v.extractLsb' 23 1 = 1#1) (h22 : v.extractLsb' 22 1 = 1#1)
    (h15 : v.extractLsb' 15 1 = 1#1) :
    (Instr.e24Reserved (v.extractLsb' 17 5) (v.extractLsb' 10 5) (v.extractLsb' 0 10)).wellFormed = true := by
  have hfields := eventValue_isPowerCycle_iff (v.extractLsb' 23 1) (v.extractLsb' 22 1) (v.extractLsb' 17 5)
    (v.extractLsb' 15 1) (v.extractLsb' 10 5) (v.extractLsb' 0 10)
  rw [eventValue_eta v heven] at hfields
  simpa [Instr.wellFormed, ← not_and_or, hfields, h23, h22, h15] using hpattern

theorem decodeEvent_spells {v : Value} (heven : v.extractLsb' 16 1 = 0#1) :
    Spells (decodeEvent v) (frameWord 24#8 v) := by
  have word {s23 s22 s15 : BitVec 1} (h23 : v.extractLsb' 23 1 = s23) (h22 : v.extractLsb' 22 1 = s22)
      (h15 : v.extractLsb' 15 1 = s15) :
      frameWord 24#8 (eventValue s23 s22 (v.extractLsb' 17 5) s15 (v.extractLsb' 10 5) (v.extractLsb' 0 10)) =
        frameWord 24#8 v := by
    rw [← h23, ← h22, ← h15, eventValue_eta v heven]
  unfold decodeEvent
  refine .ite (fun h => ⟨rfl, rfl, congrArg (frameWord 24#8) (powerCycleValue_eta h)⟩) fun hpattern => ?_
  refine .ite (fun h23 => ?_) fun h23 => ?_
  · refine .ite (fun h22 => ?_) fun h22 => ?_
    · exact .ite
        (fun h15 => ⟨rfl, e24Reserved_wellFormed_of_pattern heven hpattern h23 h22 h15, word h23 h22 h15⟩)
        (fun h15 => ⟨rfl, rfl, word h23 h22 (bit_eq_zero_of_ne_one h15)⟩)
    · exact .ite
        (fun h15 => ⟨rfl, rfl, word h23 (bit_eq_zero_of_ne_one h22) h15⟩)
        (fun h15 => ⟨rfl, rfl, word h23 (bit_eq_zero_of_ne_one h22) (bit_eq_zero_of_ne_one h15)⟩)
  · exact .ite
      (fun h15 => ⟨rfl, rfl, word (bit_eq_zero_of_ne_one h23) rfl h15⟩)
      (fun h15 => ⟨rfl, rfl, word (bit_eq_zero_of_ne_one h23) rfl (bit_eq_zero_of_ne_one h15)⟩)

/-! ### Frames of supported length -/

theorem data_eta {v : Value} (h : v.extractLsb' 8 16 = 0#16) : 0#16 ++ byteLo v = v := by
  rw [← h]
  exact append_extract (m := 16) (n := 8) v

theorem word16_of_value {v : Value} (h : byteHi v = 0#8) : word16 (byteMid v) (byteLo v) = frameWord 16#8 v := by
  rw [word16, ← h, value_eta]

theorem word24_of_value (v : Value) : word24 (byteHi v) (byteMid v) (byteLo v) = frameWord 24#8 v := by
  rw [word24, value_eta]

/-- The address byte of a command frame is odd (R111). -/
theorem byteHi_odd_of_selector {v : Value} (h : v.extractLsb' 16 1 ≠ 0#1) : (byteHi v).getLsbD 0 = true := by
  by_contra hodd
  refine h (BitVec.eq_of_getLsbD_eq fun i hi => ?_)
  obtain rfl : i = 0 := by omega
  simpa [byteHi] using hodd

theorem decodeFrame_spells {len : Byte} (hlen : len = 8#8 ∨ len = 16#8 ∨ len = 24#8) (v : Value) :
    Spells (decodeFrame len v) (frameWord len v) := by
  obtain rfl | rfl | rfl := hlen
  · rw [decodeFrame_8]
    refine .ite (fun h => ⟨rfl, rfl, congrArg (frameWord 8#8) (data_eta h)⟩) fun h => ⟨rfl, ?_, rfl⟩
    simpa [Instr.wellFormed] using mt (value_lt_8_iff v).mp h
  · rw [decodeFrame_16]
    refine .ite (fun h => word16_of_value h ▸ decode16_spells (byteMid v) (byteLo v)) fun h => ⟨rfl, ?_, rfl⟩
    simpa [Instr.wellFormed] using mt (value_lt_16_iff v).mp h
  · rw [decodeFrame_24]
    exact .ite (fun h => decodeEvent_spells h)
      fun h => word24_of_value v ▸ decode24Odd_spells (byteMid v) (byteLo v) (byteHi_odd_of_selector h)

theorem decode_frame_spells {w : OpWord} (hsel : opSel w = 1#2)
    (hlen : opLen w = 8#8 ∨ opLen w = 16#8 ∨ opLen w = 24#8) : Spells (decode w) w := by
  have h := decodeFrame_spells hlen (opValue w)
  rwa [← decode_of_frame hsel, frameWord_eta w hsel] at h

theorem decode_wellFormed_top (w : OpWord) : (decode w).wellFormed = true ∧ (decode w).isTop = true := by
  obtain hsel | hsel | hsel | hsel := opSel_cases w
  · rw [decode_of_nop hsel]
    exact ⟨rfl, rfl⟩
  · by_cases hlen : opLen w = 8#8 ∨ opLen w = 16#8 ∨ opLen w = 24#8
    · have h := decode_frame_spells hsel hlen
      exact ⟨h.wellFormed, h.top⟩
    · simp only [not_or] at hlen
      obtain ⟨h8, h16, h24⟩ := hlen
      rw [decode_of_frame hsel, decodeFrame_badLen _ h8 h16 h24]
      exact ⟨by simp [Instr.wellFormed, h8, h16, h24], rfl⟩
  · rw [decode_of_loadCtx hsel]
    exact ⟨rfl, rfl⟩
  · rw [decode_of_sreset hsel]
    exact ⟨rfl, rfl⟩

/-! ### The stage row is the other view of the same word -/

/-- The row `j` of a command stage is well formed and has the word of the top row `i`. -/
structure SameWord (i j : Instr) : Prop where
  stage : j.isTop = false
  wellFormed : j.wellFormed = true
  encode_eq : encode j = encode i

/-- Base and counter of a family member make up its opcode byte (R153). -/
theorem nibbles_of_mask {h : BitVec 4} {op : Byte} (hop : op &&& 0xF0#8 = h ++ 0#4) :
    h ++ op.extractLsb' 0 4 = op := by
  have heta : op.extractLsb' 4 4 ++ op.extractLsb' 0 4 = op := append_extract (m := 4) (n := 4) op
  have hhigh : op.extractLsb' 4 4 = h := by
    rwa [← heta, nibbles_and_mask, BitVec.append_left_inj] at hop
  rwa [hhigh] at heta

theorem decodeG16_sameWord (form : AddrForm) (op : Byte) {i : Instr} (hi : encode i = word16 form.byte op) :
    SameWord i (decodeG16 form op) := by
  have hgood (b : BitVec 4) (hb : op &&& 0xF0#8 = b ++ 0#4) : word16 form.byte (b ++ op.extractLsb' 0 4) = encode i :=
    (congrArg (word16 form.byte) (nibbles_of_mask hb)).trans hi.symm
  unfold decodeG16
  split_ifs with h1 h4 h5 h6 h7 hB
  · exact ⟨rfl, rfl, hgood 1#4 h1⟩
  · exact ⟨rfl, rfl, hgood 4#4 h4⟩
  · exact ⟨rfl, rfl, hgood 5#4 h5⟩
  · exact ⟨rfl, rfl, hgood 6#4 h6⟩
  · exact ⟨rfl, rfl, hgood 7#4 h7⟩
  · exact ⟨rfl, rfl, hgood 11#4 hB⟩
  · exact ⟨rfl, by simp [Instr.wellFormed, isFamily, h1, h4, h5, h6, h7, hB], hi.symm⟩

theorem stageRow_sameWord {i j : Instr} (h : i.stageRow = some j) : SameWord i j := by
  cases i with
  | a16Short a op => exact Option.some.inj h ▸ decodeG16_sameWord (.short a) op rfl
  | a16Group x g op => exact Option.some.inj h ▸ decodeG16_sameWord (.group x g) op rfl
  | a16BcUnaddr op => exact Option.some.inj h ▸ decodeG16_sameWord .bcUnaddr op rfl
  | a16Bc op => exact Option.some.inj h ▸ decodeG16_sameWord .bc op rfl
  | a24Short a ib op => exact Option.some.inj h ▸ ⟨rfl, rfl, rfl⟩
  | a24Group x g ib op => exact Option.some.inj h ▸ ⟨rfl, rfl, rfl⟩
  | a24BcUnaddr ib op => exact Option.some.inj h ▸ ⟨rfl, rfl, rfl⟩
  | a24Bc ib op => exact Option.some.inj h ▸ ⟨rfl, rfl, rfl⟩
  | _ => cases h

/-- Settles O30: the leaves of the decoder put the word together again, and the stage row has the word of its top row. -/
theorem frameWordIsRecovered : Obligations.FrameWordIsRecovered := by
  unfold Obligations.FrameWordIsRecovered
  intro w hsel hlen
  have hword : encode (decode w) = w := (decode_frame_spells hsel hlen).encode_eq
  exact ⟨hword, fun j hj => (stageRow_sameWord hj).encode_eq.trans hword⟩

/-- Settles O29. -/
theorem decodeIsWellFormed : Obligations.DecodeIsWellFormed := by
  unfold Obligations.DecodeIsWellFormed
  intro w
  obtain ⟨hwf, htop⟩ := decode_wellFormed_top w
  refine ⟨hwf, htop, fun j hj => ?_⟩
  have hstage := stageRow_sameWord hj
  exact ⟨hstage.wellFormed, hstage.stage⟩

/-- Settles O1. -/
theorem stepRunsDecodedOperation : Obligations.StepRunsDecodedOperation := by
  unfold Obligations.StepRunsDecodedOperation
  intro s w rest hinput
  exact ⟨(decode_wellFormed_top w).1, step_operation s w rest hinput⟩

end Sys2Proof.Proofs
end

section
/-! PROOF. The decoder is the opcode table (R81). On the words of one format a row's mask and match come down to the
test the decoder makes on one byte or one field, so the decoder's tests are the table's rows walked in priority order;
the rows in between are of another length or of another kind of value, and match no word of the format. -/

namespace Sys2Proof.Proofs

open Sys2Proof.Machine Sys2Proof.Laws

/-! ### Which words a row matches -/

theorem append_eq_append_iff {m n : Nat} {x1 x2 : BitVec m} {y1 y2 : BitVec n} :
    x1 ++ y1 = x2 ++ y2 ↔ x1 = x2 ∧ y1 = y2 := by
  refine ⟨fun h => ?_, fun ⟨hx, hy⟩ => by rw [hx, hy]⟩
  have hlow := congrArg (BitVec.extractLsb' 0 n) h
  rw [extract_append_low _ _ 0 n (by omega), extract_append_low _ _ 0 n (by omega), extract_all, extract_all] at hlow
  subst hlow
  exact ⟨(BitVec.append_left_inj y1).mp h, rfl⟩

/-- A word in two parts matches a mask in two parts when each part does. -/
theorem and_append_eq_iff {m n : Nat} {x mx px : BitVec m} {y my py : BitVec n} :
    (x ++ y) &&& (mx ++ my) = px ++ py ↔ x &&& mx = px ∧ y &&& my = py := by
  rw [BitVec.and_append, append_eq_append_iff]

theorem hits_iff (r : OpcodeRow) (w : OpWord) : r.hits w = true ↔ w &&& r.mask = r.pattern :=
  beq_iff_eq

section
variable {r : OpcodeRow}

theorem hits_port_iff (sel : BitVec 2) (hm : r.mask = 3#2 ++ 0#32) (hp : r.pattern = sel ++ 0#32) (w : OpWord) :
    r.hits w = true ↔ opSel w = sel := by
  have hw : opSel w ++ w.extractLsb' 0 32 = w := append_extract (m := 2) (n := 32) w
  rw [hits_iff, hm, hp, ← hw, and_append_eq_iff, hw]
  simp [show opSel w &&& 3#2 = opSel w from BitVec.and_allOnes]

theorem hits_frameWord_iff {ml pl : Byte} {mv pv : Value} (hm : r.mask = 3#2 ++ ml ++ mv)
    (hp : r.pattern = frameWord pl pv) (len : Byte) (v : Value) :
    r.hits (frameWord len v) = true ↔ len &&& ml = pl ∧ v &&& mv = pv := by
  rw [hits_iff, hm, hp, frameWord, frameWord, and_append_eq_iff, and_append_eq_iff]
  simp

theorem hits_frameValue_iff {len : Byte} {mv pv : Value} (hm : r.mask = 3#2 ++ 0xFF#8 ++ mv)
    (hp : r.pattern = frameWord len pv) (v : Value) : r.hits (frameWord len v) = true ↔ v &&& mv = pv := by
  rw [hits_frameWord_iff hm hp, byte_and_full]
  simp

theorem bytes_and_eq_iff {a b c ma mb mc pa pb pc : Byte} :
    (a ++ b ++ c : Value) &&& (ma ++ mb ++ mc) = pa ++ pb ++ pc ↔ a &&& ma = pa ∧ b &&& mb = pb ∧ c &&& mc = pc := by
  rw [and_append_eq_iff, and_append_eq_iff, and_assoc]

theorem hits_word16_iff (mb pb : Byte) (hm : r.mask = 3#2 ++ 0xFF#8 ++ (0xFF#8 ++ mb ++ 0#8))
    (hp : r.pattern = word16 pb 0#8) {ab op : Byte} : r.hits (word16 ab op) = true ↔ ab &&& mb = pb := by
  rw [word16, hits_frameValue_iff hm hp, bytes_and_eq_iff]
  simp

theorem hits_word16_byte_iff (pb : Byte) (hm : r.mask = 3#2 ++ 0xFF#8 ++ (0xFF#8 ++ 0xFF#8 ++ 0#8))
    (hp : r.pattern = word16 pb 0#8) {ab op : Byte} : r.hits (word16 ab op) = true ↔ ab = pb := by
  rw [hits_word16_iff 0xFF#8 pb hm hp, byte_and_full]

theorem hits_word24_iff (ma pa : Byte) (hm : r.mask = 3#2 ++ 0xFF#8 ++ (ma ++ 0#8 ++ 0#8))
    (hp : r.pattern = word24 pa 0#8 0#8) {ab ib op : Byte} : r.hits (word24 ab ib op) = true ↔ ab &&& ma = pa := by
  rw [word24, hits_frameValue_iff hm hp, bytes_and_eq_iff]
  simp

theorem hits_word24_byte_iff (pa : Byte) (hm : r.mask = 3#2 ++ 0xFF#8 ++ (0xFF#8 ++ 0#8 ++ 0#8))
    (hp : r.pattern = word24 pa 0#8 0#8) {ab ib op : Byte} : r.hits (word24 ab ib op) = true ↔ ab = pa := by
  rw [hits_word24_iff 0xFF#8 pa hm hp, byte_and_full]

theorem hits_initialise_iff (mc pc : Byte) (hm : r.mask = 3#2 ++ 0xFF#8 ++ (0xFF#8 ++ 0xFF#8 ++ mc))
    (hp : r.pattern = word24 0xC1#8 0x01#8 pc) {op : Byte} :
    r.hits (word24 0xC1#8 0x01#8 op) = true ↔ op &&& mc = pc := by
  rw [word24, hits_frameValue_iff hm hp, bytes_and_eq_iff]
  simp

theorem hits_initialise_byte_iff (pc : Byte) (hm : r.mask = 3#2 ++ 0xFF#8 ++ (0xFF#8 ++ 0xFF#8 ++ 0xFF#8))
    (hp : r.pattern = word24 0xC1#8 0x01#8 pc) {op : Byte} :
    r.hits (word24 0xC1#8 0x01#8 op) = true ↔ op = pc := by
  rw [hits_initialise_iff 0xFF#8 pc hm hp, byte_and_full]

theorem hits_powerCycle_iff (hm : r.mask = 3#2 ++ 0xFF#8 ++ (0x7FF#11 ++ 0#13))
    (hp : r.pattern = frameWord 24#8 (0x7F7#11 ++ 0#13)) {v : Value} :
    r.hits (frameWord 24#8 v) = true ↔ v.extractLsb' 13 11 = 0x7F7#11 := by
  have hv : v.extractLsb' 13 11 ++ v.extractLsb' 0 13 = v := append_extract (m := 11) (n := 13) v
  rw [hits_frameValue_iff hm hp, ← hv, and_append_eq_iff, hv]
  simp [show v.extractLsb' 13 11 &&& 0x7FF#11 = v.extractLsb' 13 11 from BitVec.and_allOnes]

/-- What a mask over the selector bits of an event fixes (R68); bit 16 is 0 in every event. -/
theorem eventValue_and_eq_iff {s23 s22 s15 m23 m22 m15 p23 p22 p15 : BitVec 1} {f1 f2 : BitVec 5} {ev : BitVec 10} :
    eventValue s23 s22 f1 s15 f2 ev &&& (m23 ++ m22 ++ 0#5 ++ 1#1 ++ m15 ++ 0#5 ++ 0#10) =
      eventValue p23 p22 0#5 p15 0#5 0#10 ↔ s23 &&& m23 = p23 ∧ s22 &&& m22 = p22 ∧ s15 &&& m15 = p15 := by
  unfold eventValue
  rw [and_append_eq_iff, and_append_eq_iff, and_append_eq_iff, and_append_eq_iff, and_append_eq_iff, and_append_eq_iff]
  simp [and_assoc]

/-- An event row looks at the selector bits alone (R68, R73). -/
theorem hits_event_iff (m23 m22 m15 p23 p22 p15 : BitVec 1)
    (hm : r.mask = 3#2 ++ 0xFF#8 ++ (m23 ++ m22 ++ 0#5 ++ 1#1 ++ m15 ++ 0#5 ++ 0#10))
    (hp : r.pattern = frameWord 24#8 (eventValue p23 p22 0#5 p15 0#5 0#10)) {v : Value}
    (heven : v.extractLsb' 16 1 = 0#1) :
    r.hits (frameWord 24#8 v) = true ↔
      v.extractLsb' 23 1 &&& m23 = p23 ∧ v.extractLsb' 22 1 &&& m22 = p22 ∧ v.extractLsb' 15 1 &&& m15 = p15 := by
  rw [hits_frameValue_iff hm hp]
  conv_lhs => rw [← eventValue_eta v heven]
  exact eventValue_and_eq_iff

/-- A row of stage `G16` looks at the high nibble of the opcode byte alone (R76). -/
theorem hits_stage_iff (low : Byte) (hm : r.mask = 0#2 ++ 0#8 ++ (0#8 ++ 0#8 ++ 0xF0#8))
    (hp : r.pattern = 0#2 ++ 0#8 ++ (0#8 ++ 0#8 ++ low)) {ab op : Byte} :
    r.hits (word16 ab op) = true ↔ op &&& 0xF0#8 = low := by
  rw [hits_iff, hm, hp, word16, frameWord, and_append_eq_iff, and_append_eq_iff, bytes_and_eq_iff]
  simp

theorem hits_of_mask_zero (hm : r.mask = 0#34) (hp : r.pattern = 0#34) (w : OpWord) : r.hits w = true := by
  rw [hits_iff, hm, hp]
  exact BitVec.and_zero

end

/-- Rows that fix a field match no word with another value there. -/
theorem misses_of_field (start n : Nat) (ps : List (BitVec n)) {rows : List OpcodeRow} {w : OpWord}
    (hrows : ∀ r ∈ rows, r.mask.extractLsb' start n = BitVec.allOnes n ∧ r.pattern.extractLsb' start n ∈ ps)
    (hw : w.extractLsb' start n ∉ ps) : ∀ r ∈ rows, ¬ r.hits w = true := by
  intro r hr hhit
  obtain ⟨hmask, hpattern⟩ := hrows r hr
  have hfield := congrArg (BitVec.extractLsb' start n) ((hits_iff r w).mp hhit)
  rw [BitVec.extractLsb'_and, hmask, BitVec.and_allOnes] at hfield
  exact hw (hfield ▸ hpattern)

/-! ### The first matching row -/

/-- The first of the rows that matches `w` stands in the relation `P` to the instruction `i`. -/
def FirstRow (P : OpcodeRow → Instr → Prop) (rows : List OpcodeRow) (w : OpWord) (i : Instr) : Prop :=
  ∃ r, firstRow rows w = some r ∧ P r i

section
variable {P : OpcodeRow → Instr → Prop} {r : OpcodeRow} {rows : List OpcodeRow} {w : OpWord} {i j : Instr}

theorem FirstRow.here (hhit : r.hits w = true) (hP : P r i) : FirstRow P (r :: rows) w i :=
  ⟨r, List.find?_cons_of_pos hhit, hP⟩

theorem FirstRow.skip {pre : List OpcodeRow} (hmiss : ∀ r ∈ pre, ¬ r.hits w = true) (h : FirstRow P rows w i) :
    FirstRow P (pre ++ rows) w i := by
  obtain ⟨q, hq, hP⟩ := h
  refine ⟨q, ?_, hP⟩
  rw [firstRow, List.find?_append, List.find?_eq_none.mpr hmiss]
  exact hq

theorem FirstRow.append (h : FirstRow P rows w i) (post : List OpcodeRow) : FirstRow P (rows ++ post) w i := by
  obtain ⟨q, hq, hP⟩ := h
  refine ⟨q, ?_, hP⟩
  rw [firstRow, List.find?_append, show rows.find? (fun r => r.hits w) = some q from hq]
  rfl

/-- One test of the decoder is one row of the table. -/
theorem FirstRow.ite {c : Prop} [Decidable c] (hc : r.hits w = true ↔ c) (hP : P r i)
    (hrest : ¬ c → FirstRow P rows w j) : FirstRow P (r :: rows) w (if c then i else j) := by
  by_cases h : c
  · rw [if_pos h]
    exact .here (hc.mpr h) hP
  · rw [if_neg h]
    exact .skip (pre := [r]) (by simpa using mt hc.mp h) (hrest h)

end

/-! ### Stages `G16` and `G24` -/

/-- The row has the instruction's mnemonic. -/
def Named (r : OpcodeRow) (i : Instr) : Prop := r.mnemonic = i.mnemonic

theorem decodeG16_firstRow (form : AddrForm) (ab op : Byte) :
    FirstRow Named g16Rows (word16 ab op) (decodeG16 form op) := by
  unfold decodeG16 g16Rows
  refine .ite (hits_stage_iff 0x10#8 (by decide) (by decide)) rfl fun _ => ?_
  refine .ite (hits_stage_iff 0x40#8 (by decide) (by decide)) rfl fun _ => ?_
  refine .ite (hits_stage_iff 0x50#8 (by decide) (by decide)) rfl fun _ => ?_
  refine .ite (hits_stage_iff 0x60#8 (by decide) (by decide)) rfl fun _ => ?_
  refine .ite (hits_stage_iff 0x70#8 (by decide) (by decide)) rfl fun _ => ?_
  refine .ite (hits_stage_iff 0xB0#8 (by decide) (by decide)) rfl fun _ => ?_
  exact .here (hits_of_mask_zero rfl rfl _) rfl

theorem g24Lut_firstRow (form : AddrForm) (ib op : Byte) (w : OpWord) :
    FirstRow Named g24Rows w (.g24Lut form ib op) :=
  .here (hits_of_mask_zero rfl rfl w) rfl

/-! ### Stage `top` -/

/-- The row `r` of stage `top` is the instruction's, and continues with the stage whose first row is the stage row's. -/
structure RowOf (w : OpWord) (r : OpcodeRow) (i : Instr) : Prop where
  named : Named r i
  last : r.next = none → i.stageRow = none
  continues : ∀ st, r.next = some st → ∃ j, i.stageRow = some j ∧ FirstRow Named st.rows w j

section
variable {w : OpWord} {r : OpcodeRow} {i : Instr}

theorem RowOf.ofLast (hname : Named r i) (hnext : r.next = none) (hstage : i.stageRow = none) : RowOf w r i :=
  ⟨hname, fun _ => hstage, fun st hst => by simp [hnext] at hst⟩

theorem RowOf.ofG16 (form : AddrForm) {ab op : Byte} (hname : Named r i) (hnext : r.next = some .g16)
    (hstage : i.stageRow = some (decodeG16 form op)) : RowOf (word16 ab op) r i := by
  refine ⟨hname, fun hnone => by simp [hnext] at hnone, fun st hst => ?_⟩
  obtain rfl : Stage.g16 = st := Option.some.inj (hnext.symm.trans hst)
  exact ⟨_, hstage, decodeG16_firstRow form ab op⟩

theorem RowOf.ofG24 (form : AddrForm) {ab ib op : Byte} (hname : Named r i) (hnext : r.next = some .g24)
    (hstage : i.stageRow = some (.g24Lut form ib op)) : RowOf (word24 ab ib op) r i := by
  refine ⟨hname, fun hnone => by simp [hnext] at hnone, fun st hst => ?_⟩
  obtain rfl : Stage.g24 = st := Option.some.inj (hnext.symm.trans hst)
  exact ⟨_, hstage, g24Lut_firstRow form ib op _⟩

end

theorem decode16_firstRow (ab op : Byte) :
    FirstRow (RowOf (word16 ab op)) topRows16 (word16 ab op) (decode16 ab op) := by
  unfold decode16 topRows16
  refine .ite (hits_word16_iff 0x81#8 0x01#8 (by decide) (by decide)) (.ofG16 _ rfl rfl rfl) fun _ => ?_
  refine .ite (hits_word16_iff 0xC1#8 0x81#8 (by decide) (by decide)) (.ofG16 _ rfl rfl rfl) fun _ => ?_
  refine .ite (hits_word16_byte_iff 0xFD#8 (by decide) (by decide)) (.ofG16 _ rfl rfl rfl) fun _ => ?_
  refine .ite (hits_word16_byte_iff 0xFF#8 (by decide) (by decide)) (.ofG16 _ rfl rfl rfl) fun _ => ?_
  refine .ite (hits_word16_byte_iff 0xC0#8 (by decide) (by decide)) (.ofLast rfl rfl rfl) fun _ => ?_
  refine .ite (hits_word16_iff 0xE0#8 0xC0#8 (by decide) (by decide)) (.ofLast rfl rfl rfl) fun _ => ?_
  refine .ite (hits_word16_byte_iff 0xE0#8 (by decide) (by decide)) (.ofLast rfl rfl rfl) fun _ => ?_
  refine .ite (hits_word16_iff 0xF0#8 0xE0#8 (by decide) (by decide)) (.ofLast rfl rfl rfl) fun _ => ?_
  refine .ite (hits_word16_byte_iff 0xF0#8 (by decide) (by decide)) (.ofLast rfl rfl rfl) fun _ => ?_
  refine .ite (hits_word16_iff 0xF8#8 0xF0#8 (by decide) (by decide)) (.ofLast rfl rfl rfl) fun _ => ?_
  refine .ite (hits_word16_iff 0xFC#8 0xF8#8 (by decide) (by decide)) (.ofLast rfl rfl rfl) fun _ => ?_
  exact .here ((hits_word16_iff 0#8 0#8 (by decide) (by decide)).mpr (byte_and_zero ab)) (.ofLast rfl rfl rfl)

/-- The event tree (R73) tests its bits in the order of the event rows. -/
theorem eventTree_eq_chain (s23 s22 s15 : BitVec 1) (reserved instanceGroup inst deviceGroup deviceInstance device : Instr) :
    (if s23 = 1#1 then
      if s22 = 1#1 then if s15 = 1#1 then reserved else instanceGroup
      else if s15 = 1#1 then inst else deviceGroup
    else if s15 = 1#1 then deviceInstance else device) =
    if s23 = 1#1 ∧ s22 = 1#1 ∧ s15 = 1#1 then reserved
    else if s23 = 1#1 ∧ s22 = 1#1 ∧ s15 = 0#1 then instanceGroup
    else if s23 = 1#1 ∧ s22 = 0#1 ∧ s15 = 1#1 then inst
    else if s23 = 1#1 ∧ s22 = 0#1 ∧ s15 = 0#1 then deviceGroup
    else if s23 = 0#1 ∧ s15 = 1#1 then deviceInstance
    else device := by
  have hbit : ∀ b : BitVec 1, b = 0#1 ∨ b = 1#1 := by decide
  obtain rfl | rfl := hbit s23 <;> obtain rfl | rfl := hbit s22 <;> obtain rfl | rfl := hbit s15 <;> rfl

theorem deviceSelector_of_misses : ∀ s23 s22 s15 : BitVec 1, ¬ (s23 = 1#1 ∧ s22 = 1#1 ∧ s15 = 1#1) →
    ¬ (s23 = 1#1 ∧ s22 = 1#1 ∧ s15 = 0#1) → ¬ (s23 = 1#1 ∧ s22 = 0#1 ∧ s15 = 1#1) →
    ¬ (s23 = 1#1 ∧ s22 = 0#1 ∧ s15 = 0#1) → ¬ (s23 = 0#1 ∧ s15 = 1#1) →
    s23 &&& 1#1 = 0#1 ∧ s22 &&& 0#1 = 0#1 ∧ s15 &&& 1#1 = 0#1 := by
  decide

theorem decodeEvent_firstRow {v : Value} (heven : v.extractLsb' 16 1 = 0#1) :
    FirstRow (RowOf (frameWord 24#8 v)) topRowsEvent (frameWord 24#8 v) (decodeEvent v) := by
  have hbit : ∀ b : BitVec 1, b &&& 1#1 = b := by decide
  have hsel {r : OpcodeRow} (p23 p22 p15 : BitVec 1)
      (hm : r.mask = 3#2 ++ 0xFF#8 ++ (1#1 ++ 1#1 ++ 0#5 ++ 1#1 ++ 1#1 ++ 0#5 ++ 0#10))
      (hp : r.pattern = frameWord 24#8 (eventValue p23 p22 0#5 p15 0#5 0#10)) :
      r.hits (frameWord 24#8 v) = true ↔
        v.extractLsb' 23 1 = p23 ∧ v.extractLsb' 22 1 = p22 ∧ v.extractLsb' 15 1 = p15 := by
    rw [hits_event_iff 1#1 1#1 1#1 p23 p22 p15 hm hp heven, hbit, hbit, hbit]
  simp only [decodeEvent, eventTree_eq_chain]
  unfold topRowsEvent
  refine .ite (hits_powerCycle_iff (by decide) (by decide)) (.ofLast rfl rfl rfl) fun _ => ?_
  refine .ite (hsel 1#1 1#1 1#1 (by decide) (by decide)) (.ofLast rfl rfl rfl) fun h111 => ?_
  refine .ite (hsel 1#1 1#1 0#1 (by decide) (by decide)) (.ofLast rfl rfl rfl) fun h110 => ?_
  refine .ite (hsel 1#1 0#1 1#1 (by decide) (by decide)) (.ofLast rfl rfl rfl) fun h101 => ?_
  refine .ite (hsel 1#1 0#1 0#1 (by decide) (by decide)) (.ofLast rfl rfl rfl) fun h100 => ?_
  refine .ite ((hits_event_iff 1#1 0#1 1#1 0#1 0#1 1#1 (by decide) (by decide) heven).trans ?_)
    (.ofLast rfl rfl rfl) fun h01 => ?_
  · simp [hbit]
  exact .here ((hits_event_iff 1#1 0#1 1#1 0#1 0#1 0#1 (by decide) (by decide) heven).mpr
    (deviceSelector_of_misses _ _ _ h111 h110 h101 h100 h01)) (.ofLast rfl rfl rfl)

/-- The INITIALISE rows, priorities 30 to 33. -/
def initialiseRows : List OpcodeRow := (topRows24.drop 4).take 4

theorem decodeInitialise_firstRow (op : Byte) :
    FirstRow (RowOf (word24 0xC1#8 0x01#8 op)) initialiseRows (word24 0xC1#8 0x01#8 op) (decodeInitialise op) := by
  unfold decodeInitialise initialiseRows topRows24
  refine .ite (hits_initialise_byte_iff 0xFF#8 (by decide) (by decide)) (.ofLast rfl rfl rfl) fun _ => ?_
  refine .ite (hits_initialise_byte_iff 0x00#8 (by decide) (by decide)) (.ofLast rfl rfl rfl) fun _ => ?_
  refine .ite (hits_initialise_iff 0x81#8 0x01#8 (by decide) (by decide)) (.ofLast rfl rfl rfl) fun _ => ?_
  exact .here ((hits_initialise_iff 0#8 0#8 (by decide) (by decide)).mpr (byte_and_zero op)) (.ofLast rfl rfl rfl)

theorem frameWord_field (len : Byte) (v : Value) (k l : Nat) (h : k + l ≤ 24) :
    (frameWord len v).extractLsb' k l = v.extractLsb' k l :=
  extract_append_low (1#2 ++ len) v k l h

theorem word24_byteHi (ab ib op : Byte) : (word24 ab ib op).extractLsb' 16 8 = ab :=
  (frameWord_field _ _ 16 8 (by decide)).trans (byteHi_append ab ib op)

theorem word24_byteMid (ab ib op : Byte) : (word24 ab ib op).extractLsb' 8 8 = ib :=
  (frameWord_field _ _ 8 8 (by decide)).trans (byteMid_append ab ib op)

/-- The rows from INITIALISE on, for the special command 0xC1 (R78): INITIALISE at `ib = 1`, else the table. -/
theorem decodeC1_firstRow (ib op : Byte) :
    FirstRow (RowOf (word24 0xC1#8 ib op)) (topRows24.drop 4) (word24 0xC1#8 ib op)
      (if ib = 0x01#8 then decodeInitialise op else .s24C1Lut ib op) := by
  have hsplit : topRows24.drop 4 = initialiseRows ++ topRows24.drop 8 := rfl
  rw [hsplit]
  by_cases hib : ib = 0x01#8
  · subst hib
    exact (decodeInitialise_firstRow op).append _
  · rw [if_neg hib]
    have hmiss := misses_of_field 8 8 [0x01#8] (rows := initialiseRows) (w := word24 0xC1#8 ib op) (by decide)
      (by simpa [word24_byteMid] using hib)
    exact .skip hmiss (.here ((hits_word24_byte_iff 0xC1#8 (by decide) (by decide)).mpr rfl) (.ofLast rfl rfl rfl))

theorem decode24Odd_firstRow {ab : Byte} (ib op : Byte) (hodd : ab.getLsbD 0 = true) :
    FirstRow (RowOf (word24 ab ib op)) topRows24 (word24 ab ib op) (decode24Odd ab ib op) := by
  unfold decode24Odd
  refine .ite (hits_word24_iff 0x81#8 0x01#8 (by decide) (by decide)) (.ofG24 _ rfl rfl rfl) fun hshort => ?_
  refine .ite (hits_word24_iff 0xC1#8 0x81#8 (by decide) (by decide)) (.ofG24 _ rfl rfl rfl) fun hgroup => ?_
  refine .ite (hits_word24_byte_iff 0xFD#8 (by decide) (by decide)) (.ofG24 _ rfl rfl rfl) fun hFD => ?_
  refine .ite (hits_word24_byte_iff 0xFF#8 (by decide) (by decide)) (.ofG24 _ rfl rfl rfl) fun hFF => ?_
  by_cases hC1 : ab = 0xC1#8
  · subst hC1
    exact decodeC1_firstRow ib op
  rw [if_neg hC1]
  have hmiss := misses_of_field 16 8 [0xC1#8] (rows := (topRows24.drop 4).take 5) (w := word24 ab ib op) (by decide)
    (by simpa [word24_byteHi] using hC1)
  refine .skip (rows := topRows24.drop 9) hmiss ?_
  refine .ite (hits_word24_byte_iff 0xC5#8 (by decide) (by decide)) (.ofLast rfl rfl rfl) fun _ => ?_
  refine .ite (hits_word24_byte_iff 0xC7#8 (by decide) (by decide)) (.ofLast rfl rfl rfl) fun _ => ?_
  refine .ite (hits_word24_byte_iff 0xC9#8 (by decide) (by decide)) (.ofLast rfl rfl rfl) fun _ => ?_
  refine .ite (hits_word24_iff 0xE1#8 0xC1#8 (by decide) (by decide)) (.ofLast rfl rfl rfl) fun hC => ?_
  refine .ite (hits_word24_iff 0xF1#8 0xE1#8 (by decide) (by decide)) (.ofLast rfl rfl rfl) fun hE => ?_
  refine .ite (hits_word24_iff 0xF9#8 0xF1#8 (by decide) (by decide)) (.ofLast rfl rfl rfl) fun hF1 => ?_
  obtain ⟨hF9, -⟩ := a24ReservedF9_of_misses ab hodd hshort hgroup hFD hFF hC hE hF1
  exact .here ((hits_word24_iff 0xFD#8 0xF9#8 (by decide) (by decide)).mpr hF9) (.ofLast rfl rfl rfl)

/-! ### Frames by length -/

/-- The two 8-bit rows, priorities 4 and 5. -/
def topRows8 : List OpcodeRow := topRowsPort.drop 3

/-- The rows of a FRAME, priorities 4 to 42. -/
def frameRows : List OpcodeRow := topRows8 ++ (topRows16 ++ (topRowsEvent ++ topRows24))

theorem topRows_eq : topRows = topRowsPort.take 3 ++ frameRows := rfl

/-- The rows of one length match no word of another. -/
theorem misses_of_length {rows : List OpcodeRow} {len : Byte} (l : Byte) (v : Value)
    (hrows : ∀ r ∈ rows, r.mask.extractLsb' 24 8 = BitVec.allOnes 8 ∧ r.pattern.extractLsb' 24 8 ∈ [l]) (hlen : len ≠ l) :
    ∀ r ∈ rows, ¬ r.hits (frameWord len v) = true :=
  misses_of_field 24 8 [l] hrows
    (by simpa [show (frameWord len v).extractLsb' 24 8 = len from opLen_frameWord len v] using hlen)

theorem topRows8_misses {len : Byte} (v : Value) (hlen : len ≠ 8#8) :
    ∀ r ∈ topRows8, ¬ r.hits (frameWord len v) = true :=
  misses_of_length 8#8 v (by decide) hlen

theorem topRows16_misses {len : Byte} (v : Value) (hlen : len ≠ 16#8) :
    ∀ r ∈ topRows16, ¬ r.hits (frameWord len v) = true :=
  misses_of_length 16#8 v (by decide) hlen

theorem topRowsEvent_misses {len : Byte} (v : Value) (hlen : len ≠ 24#8) :
    ∀ r ∈ topRowsEvent, ¬ r.hits (frameWord len v) = true :=
  misses_of_length 24#8 v (by decide) hlen

theorem decodeFrame_8_firstRow (v : Value) :
    FirstRow (RowOf (frameWord 8#8 v)) topRows8 (frameWord 8#8 v) (decodeFrame 8#8 v) := by
  have hv : v.extractLsb' 8 16 ++ v.extractLsb' 0 8 = v := append_extract (m := 16) (n := 8) v
  rw [decodeFrame_8]
  refine .ite ?_ (.ofLast rfl rfl rfl) fun _ => ?_
  · rw [hits_frameValue_iff (mv := 0xFFFF#16 ++ 0#8) (pv := 0#16 ++ 0#8) (by decide) (by decide), ← hv,
      and_append_eq_iff, hv]
    simp [show v.extractLsb' 8 16 &&& 0xFFFF#16 = v.extractLsb' 8 16 from BitVec.and_allOnes]
  · exact .here ((hits_frameValue_iff (mv := 0#24) (pv := 0#24) (by decide) (by decide) v).mpr BitVec.and_zero)
      (.ofLast rfl rfl rfl)

theorem decodeFrame_16_firstRow (v : Value) :
    FirstRow (RowOf (frameWord 16#8 v)) topRows16 (frameWord 16#8 v) (decodeFrame 16#8 v) := by
  rw [decodeFrame_16]
  by_cases h : byteHi v = 0#8
  · rw [if_pos h, ← word16_of_value h]
    exact decode16_firstRow (byteMid v) (byteLo v)
  · rw [if_neg h]
    have hfield : (frameWord 16#8 v).extractLsb' 16 8 = byteHi v := frameWord_field 16#8 v 16 8 (by decide)
    have hmiss := misses_of_field 16 8 [0#8] (rows := topRows16.take 12) (w := frameWord 16#8 v) (by decide)
      (by simpa [hfield] using h)
    refine .skip (rows := topRows16.drop 12) hmiss (.here ?_ (.ofLast rfl rfl rfl))
    exact (hits_frameValue_iff (mv := 0#24) (pv := 0#24) (by decide) (by decide) v).mpr BitVec.and_zero

theorem decodeFrame_24_firstRow (v : Value) :
    FirstRow (RowOf (frameWord 24#8 v)) (topRowsEvent ++ topRows24) (frameWord 24#8 v) (decodeFrame 24#8 v) := by
  rw [decodeFrame_24]
  by_cases h : v.extractLsb' 16 1 = 0#1
  · rw [if_pos h]
    exact (decodeEvent_firstRow h).append _
  · rw [if_neg h]
    refine .skip (misses_of_field 16 1 [0#1] (by decide) (by simpa [frameWord_field] using h)) ?_
    rw [← word24_of_value v]
    exact decode24Odd_firstRow (byteMid v) (byteLo v) (byteHi_odd_of_selector h)

theorem decodeFrame_badLen_firstRow {len : Byte} (v : Value) (h8 : len ≠ 8#8) (h16 : len ≠ 16#8) (h24 : len ≠ 24#8) :
    FirstRow (RowOf (frameWord len v)) frameRows (frameWord len v) (decodeFrame len v) := by
  rw [decodeFrame_badLen v h8 h16 h24]
  refine .skip (topRows8_misses v h8) (.skip (topRows16_misses v h16) (.skip (topRowsEvent_misses v h24) ?_))
  refine .skip (pre := topRows24.take 16) (rows := topRows24.drop 16) (misses_of_length 24#8 v (by decide) h24) ?_
  exact .here ((hits_frameWord_iff (ml := 0#8) (pl := 0#8) (mv := 0#24) (pv := 0#24) (by decide) (by decide) len v).mpr
    ⟨BitVec.and_zero, BitVec.and_zero⟩) (.ofLast rfl rfl rfl)

theorem decodeFrame_firstRow (len : Byte) (v : Value) :
    FirstRow (RowOf (frameWord len v)) frameRows (frameWord len v) (decodeFrame len v) := by
  by_cases h8 : len = 8#8
  · subst h8
    exact (decodeFrame_8_firstRow v).append _
  by_cases h16 : len = 16#8
  · subst h16
    exact .skip (topRows8_misses v (by decide)) ((decodeFrame_16_firstRow v).append _)
  by_cases h24 : len = 24#8
  · subst h24
    exact .skip (topRows8_misses v (by decide)) (.skip (topRows16_misses v (by decide)) (decodeFrame_24_firstRow v))
  exact decodeFrame_badLen_firstRow v h8 h16 h24

/-- On every word the first matching row is the decoded instruction's (R61, R81). -/
theorem decode_firstRow (w : OpWord) : FirstRow (RowOf w) topRows w (decode w) := by
  have hport {r : OpcodeRow} (sel : BitVec 2) (hm : r.mask = 3#2 ++ 0#32) (hp : r.pattern = sel ++ 0#32) :=
    hits_port_iff sel hm hp w
  obtain hsel | hsel | hsel | hsel := opSel_cases w
  · rw [decode_of_nop hsel]
    exact .here ((hport 0#2 (by decide) (by decide)).mpr hsel) (.ofLast rfl rfl rfl)
  · have h := decodeFrame_firstRow (opLen w) (opValue w)
    rw [frameWord_eta w hsel, ← decode_of_frame hsel] at h
    have hfield : w.extractLsb' 32 2 ∉ [0#2, 2#2, 3#2] := by
      rw [show w.extractLsb' 32 2 = 1#2 from hsel]
      decide
    rw [topRows_eq]
    exact .skip (misses_of_field 32 2 [0#2, 2#2, 3#2] (by decide) hfield) h
  · rw [decode_of_loadCtx hsel]
    refine .skip (pre := topRowsPort.take 1) (rows := topRows.drop 1) (misses_of_field 32 2 [0#2] (by decide) ?_)
      (.here ((hport 2#2 (by decide) (by decide)).mpr hsel) (.ofLast rfl rfl rfl))
    rw [show w.extractLsb' 32 2 = 2#2 from hsel]
    decide
  · rw [decode_of_sreset hsel]
    refine .skip (pre := topRowsPort.take 2) (rows := topRows.drop 2) (misses_of_field 32 2 [0#2, 2#2] (by decide) ?_)
      (.here ((hport 3#2 (by decide) (by decide)).mpr hsel) (.ofLast rfl rfl rfl))
    rw [show w.extractLsb' 32 2 = 3#2 from hsel]
    decide

/-- Settles O31: the decoder walks the rows of the table in priority order. -/
theorem decoderIsTheOpcodeTable : Obligations.DecoderIsTheOpcodeTable := by
  unfold Obligations.DecoderIsTheOpcodeTable
  intro w
  obtain ⟨r, hfirst, hname, hlast, hcontinues⟩ := decode_firstRow w
  refine ⟨r, hfirst, hname, hlast, fun st hst => ?_⟩
  obtain ⟨j, hstage, q, hq, hqname⟩ := hcontinues st hst
  exact ⟨q, j, hq, hstage, hqname⟩

end Sys2Proof.Proofs
end

section
/-! PROOF. What the decoded row does, for the frames whose effect the encoding rules speak of: the stage row of an
addressed frame has the effect of its top row (R81), an 8-bit frame echoes its byte (R150), and the two spellings of a
group differ in the echoed address byte alone (R80, R113). -/

namespace Sys2Proof.Proofs

open Sys2Proof.Machine Sys2Proof.Laws

/-! ### The two views of an addressed frame -/

/-- The command stage of a 16-bit row is the execution of the row stage `G16` decodes (R76). -/
theorem exec_decodeG16 (form : AddrForm) (op : Byte) (s : State) : exec (decodeG16 form op) s = gearStage form op s := by
  simp only [decodeG16, apply_ite (exec · s)]
  rfl

theorem exec_stageRow {i j : Instr} (h : i.stageRow = some j) (s : State) : exec i s = exec j s := by
  cases i with
  | a16Short a op => exact Option.some.inj h ▸ (exec_decodeG16 (.short a) op s).symm
  | a16Group x g op => exact Option.some.inj h ▸ (exec_decodeG16 (.group x g) op s).symm
  | a16BcUnaddr op => exact Option.some.inj h ▸ (exec_decodeG16 .bcUnaddr op s).symm
  | a16Bc op => exact Option.some.inj h ▸ (exec_decodeG16 .bc op s).symm
  | a24Short a ib op => exact Option.some.inj h ▸ rfl
  | a24Group x g ib op => exact Option.some.inj h ▸ rfl
  | a24BcUnaddr ib op => exact Option.some.inj h ▸ rfl
  | a24Bc ib op => exact Option.some.inj h ▸ rfl
  | _ => cases h

/-- Settles O2: the step runs the top row, which has the effect of its stage row. -/
theorem stepRunsTheStageRow : Obligations.StepRunsTheStageRow := by
  unfold Obligations.StepRunsTheStageRow
  intro s w rest j hinput hstage
  exact ⟨(stageRow_sameWord hstage).wellFormed, (step_operation s w rest hinput).trans (exec_stageRow hstage _)⟩

/-! ### 8-bit frames -/

theorem step_presenting (s : State) (w : OpWord) : step (s.presenting w) = exec (decode w) { s with input := [] } :=
  step_operation (s.presenting w) w [] rfl

/-- Settles O10. -/
theorem dataFrameEchoesItsByte : Obligations.DataFrameEchoesItsByte := by
  unfold Obligations.DataFrameEchoesItsByte
  refine ⟨fun data s => rfl, fun s w hsel hlen hrange => ?_⟩
  rw [step_presenting, decode_of_frame hsel, hlen, decodeFrame_8, if_pos ((value_lt_8_iff _).mp hrange)]

/-! ### Groups -/

/-- The command part of an addressed 16-bit frame does not depend on the address (R151). -/
theorem gearStage_accepts (op : Byte) (s : State) : ∃ cmd : CmdPart, ∀ form : AddrForm,
    gearStage form op s = .next (s.accept16 (formPart form) cmd form.byte op) := by
  cases hfamily : isFamily op with
  | true =>
    exact ⟨_, fun form => ((gearStage_cases form op s).resolve_right (by simp [hfamily])).2⟩
  | false =>
    have htable (form : AddrForm) : gearStage form op s = execG16Lut form op s :=
      ((gearStage_cases form op s).resolve_left (by simp [hfamily])).2
    cases hread : memRead s.cfg.img .gear op with
    | none => exact ⟨_, fun form => (htable form).trans ((execG16Lut_cases form op s).resolve_left (by simp [hread])).2⟩
    | some e =>
      refine ⟨⟨.gearNamed, op, .plain, .unaddressed⟩, fun form => ?_⟩
      obtain ⟨_, _, hexec⟩ := (execG16Lut_cases form op s).resolve_right (by simp [hread])
      exact (htable form).trans hexec

/-- The command part of an addressed 24-bit frame does not depend on the address (R200). -/
theorem execG24Lut_accepts (ib op : Byte) (s : State) : ∃ cmd : CmdPart, ∀ form : AddrForm,
    execG24Lut form ib op s = .next (s.accept24 (formPart form) cmd form.byte ib op) := by
  cases hread : memRead s.cfg.img .ctrl op with
  | none => exact ⟨_, fun form => ((execG24Lut_cases form ib op s).resolve_left (by simp [hread])).2⟩
  | some e =>
    refine ⟨⟨.ctrlNamed, op, .plain, .unaddressed⟩, fun form => ?_⟩
    obtain ⟨_, _, hexec⟩ := (execG24Lut_cases form ib op s).resolve_right (by simp [hread])
    exact hexec

theorem step_gearGroup (x : BitVec 1) (g : BitVec 4) (op : Byte) (s : State) :
    step (s.presenting (word16 (AddrForm.group x g).byte op)) = gearStage (.group x g) op { s with input := [] } := by
  rw [step_presenting, decode_word16, decode16_group]
  rfl

theorem step_controlGroup (x : BitVec 1) (g : BitVec 4) (ib op : Byte) (s : State) :
    step (s.presenting (word24 (AddrForm.group x g).byte ib op)) =
      execG24Lut (.group x g) ib op { s with input := [] } := by
  rw [step_presenting, decode_a24Group]
  rfl

/-- The two spellings of group `g` (R113), as bytes. -/
theorem groupByte_eq : ∀ g : BitVec 4, 0x81#8 + g.setWidth 8 * 2#8 = (AddrForm.group 0#1 g).byte ∧
    0xA1#8 + g.setWidth 8 * 2#8 = (AddrForm.group 1#1 g).byte := by
  decide

theorem groupField_toNat (g : BitVec 4) : (g.setWidth 6).toNat = g.toNat := by
  revert g
  decide

/-- Settles O44: both spellings reach the stage with the same address part, and the command part does not depend on the
address. -/
theorem twoSpellingsOfAGroup : Obligations.TwoSpellingsOfAGroup := by
  unfold Obligations.TwoSpellingsOfAGroup
  intro g ib op s low high w hw
  obtain ⟨hlow, hhigh⟩ : low = (AddrForm.group 0#1 g).byte ∧ high = (AddrForm.group 1#1 g).byte := groupByte_eq g
  rw [hlow, hhigh, List.mem_pair] at hw
  rw [hlow, hhigh]
  obtain rfl | rfl := hw
  · obtain ⟨cmd, hexec⟩ := gearStage_accepts op { s with input := [] }
    exact ⟨_, _, (step_gearGroup 0#1 g op s).trans (hexec _), (step_gearGroup 1#1 g op s).trans (hexec _),
      rfl, groupField_toNat g, rfl, rfl⟩
  · obtain ⟨cmd, hexec⟩ := execG24Lut_accepts ib op { s with input := [] }
    exact ⟨_, _, (step_controlGroup 0#1 g ib op s).trans (hexec _), (step_controlGroup 1#1 g ib op s).trans (hexec _),
      rfl, groupField_toNat g, rfl, rfl⟩

end Sys2Proof.Proofs
end

section
/-! PROOF. The words the spec writes out: the lines of R85 and the pseudo-operations of R86, and fixed words of the
formats. R86 writes a word as an `or` of shifted fields; each `or` of a field and the field that ends where it begins is
the two fields side by side, so the expansions fold from the left into the concatenations of R65 to R70. -/

namespace Sys2Proof.Proofs

open Sys2Proof.Machine Sys2Proof.Laws

/-! ### Shifts and ors as concatenation -/

section
variable {m n : Nat} (w : Nat)

/-- A field at `j` and the field below it, at `k`, are one field at `k`. -/
theorem shiftLeft_or_shiftLeft (x : BitVec m) (y : BitVec n) (j k : Nat) (h : j = n + k) :
    (x.setWidth w <<< j) ||| (y.setWidth w <<< k) = (x ++ y).setWidth w <<< k := by
  subst h
  apply BitVec.eq_of_getLsbD_eq
  intro i hi
  have hk : i - k < w := by omega
  have hnk : i - (n + k) < w := by omega
  have hsub : i - k - n = i - (n + k) := by omega
  simp only [BitVec.getLsbD_or, BitVec.getLsbD_shiftLeft, BitVec.getLsbD_setWidth, BitVec.getLsbD_append, hi, hk, hnk,
    hsub, decide_true, Bool.true_and]
  by_cases hlow : i < k
  · have hlow' : i < n + k := by omega
    simp [hlow, hlow']
  by_cases hmid : i - k < n
  · have hmid' : i < n + k := by omega
    simp [hlow, hmid, hmid']
  · have hmid' : ¬ i < n + k := by omega
    have hy : y.getLsbD (i - k) = false := BitVec.getLsbD_of_ge y _ (by omega)
    simp [hlow, hmid, hmid', hy]

/-- A field above the last field. -/
theorem shiftLeft_or (x : BitVec m) (y : BitVec n) :
    (x.setWidth w <<< n) ||| y.setWidth w = (x ++ y).setWidth w := by
  simpa using shiftLeft_or_shiftLeft w x y n 0 rfl

/-- Zero bits below a field. -/
theorem shiftLeft_append_zero (x : BitVec m) (j k : Nat) (h : j = n + k) :
    x.setWidth w <<< j = (x ++ 0#n).setWidth w <<< k := by
  simpa using shiftLeft_or_shiftLeft w x (0#n) j k h

/-- Zero bits above a field. -/
theorem setWidth_zero_append (x : BitVec n) : (0#m ++ x).setWidth w = x.setWidth w := by
  apply BitVec.eq_of_getLsbD_eq
  intro i hi
  by_cases hlow : i < n
  · simp [BitVec.getLsbD_append, hlow]
  · simp [BitVec.getLsbD_append, hlow, BitVec.getLsbD_of_ge x i (by omega)]

end

/-! ### The lines of R85 -/

theorem assemble_f8 (x : Byte) : assemble (.f8 x) = frameWord 8#8 (0#16 ++ x) := by
  have h := shiftLeft_or 34 (1#2 ++ 8#8) (0#16 ++ x)
  rw [setWidth_zero_append] at h
  exact h.trans (BitVec.setWidth_eq _)

theorem assemble_f16 (x : BitVec 16) : assemble (.f16 x) = frameWord 16#8 (0#8 ++ x) := by
  have h := shiftLeft_or 34 (1#2 ++ 16#8) (0#8 ++ x)
  rw [setWidth_zero_append] at h
  exact h.trans (BitVec.setWidth_eq _)

theorem assemble_f24 (v : Value) : assemble (.f24 v) = frameWord 24#8 v :=
  (shiftLeft_or 34 (1#2 ++ 24#8) v).trans (BitVec.setWidth_eq _)

theorem assemble_frame (len : Byte) (v : Value) : assemble (.frame len v) = frameWord len v := by
  have hlen := shiftLeft_or_shiftLeft 34 1#2 len 32 24 rfl
  have hword := shiftLeft_or 34 (1#2 ++ len) v
  rw [← hlen] at hword
  exact hword.trans (BitVec.setWidth_eq _)

theorem assemble_loadctx (c : Byte) : assemble (.loadctx c) = encode (.loadCtx c) :=
  (shiftLeft_or 34 (2#2 ++ 0#24) c).trans (BitVec.setWidth_eq _)

/-! ### Frames of two and three bytes -/

theorem bytes16_eq (ab op : Byte) : (ab.setWidth 16 <<< 8) ||| op.setWidth 16 = ab ++ op :=
  (shiftLeft_or 16 ab op).trans (BitVec.setWidth_eq _)

theorem bytes24_eq (ab ib op : Byte) :
    (ab.setWidth 24 <<< 16) ||| (ib.setWidth 24 <<< 8) ||| op.setWidth 24 = ab ++ ib ++ op := by
  rw [shiftLeft_or_shiftLeft 24 ab ib 16 8 rfl]
  exact (shiftLeft_or 24 (ab ++ ib) op).trans (BitVec.setWidth_eq _)

theorem assemble_bytes16 (ab op : Byte) :
    assemble (.f16 ((ab.setWidth 16 <<< 8) ||| op.setWidth 16)) = word16 ab op := by
  rw [assemble_f16, bytes16_eq, word16]
  exact congrArg (frameWord 16#8) BitVec.append_assoc'

theorem assemble_bytes24 (ab ib op : Byte) :
    assemble (.f24 ((ab.setWidth 24 <<< 16) ||| (ib.setWidth 24 <<< 8) ||| op.setWidth 24)) = word24 ab ib op := by
  rw [assemble_f24, bytes24_eq, word24]

/-- R86's address bytes, in the width of a 16-bit and of a 24-bit value. -/
theorem shortByte_shift : ∀ a : BitVec 6,
    (a.setWidth 16 <<< 1) ||| 1#16 = (AddrForm.short a).byte.setWidth 16 ∧
    (a.setWidth 24 <<< 1) ||| 1#24 = (AddrForm.short a).byte.setWidth 24 := by
  decide

theorem groupByte_shift : ∀ g : BitVec 4,
    0x81#16 + (g.setWidth 16 <<< 1) = (AddrForm.group 0#1 g).byte.setWidth 16 ∧
    0x81#24 + (g.setWidth 24 <<< 1) = (AddrForm.group 0#1 g).byte.setWidth 24 := by
  decide

/-! ### Event and power-cycle values -/

theorem eventValue_shift (s23 s22 : BitVec 1) (f1 : BitVec 5) (s15 : BitVec 1) (f2 : BitVec 5) (ev : BitVec 10) :
    (s23.setWidth 24 <<< 23) ||| (s22.setWidth 24 <<< 22) ||| (f1.setWidth 24 <<< 17) |||
      (s15.setWidth 24 <<< 15) ||| (f2.setWidth 24 <<< 10) ||| ev.setWidth 24 = eventValue s23 s22 f1 s15 f2 ev := by
  rw [shiftLeft_or_shiftLeft 24 s23 s22 23 22 rfl, shiftLeft_or_shiftLeft 24 (s23 ++ s22) f1 22 17 rfl,
    shiftLeft_append_zero (n := 1) 24 (s23 ++ s22 ++ f1) 17 16 rfl,
    shiftLeft_or_shiftLeft 24 (s23 ++ s22 ++ f1 ++ 0#1) s15 16 15 rfl,
    shiftLeft_or_shiftLeft 24 (s23 ++ s22 ++ f1 ++ 0#1 ++ s15) f2 15 10 rfl]
  exact (shiftLeft_or 24 (s23 ++ s22 ++ f1 ++ 0#1 ++ s15 ++ f2) ev).trans (BitVec.setWidth_eq _)

theorem powerCycleValue_shift (gv : BitVec 1) (g : BitVec 5) (av : BitVec 1) (a : BitVec 6) :
    0xFEE000#24 ||| (gv.setWidth 24 <<< 12) ||| (g.setWidth 24 <<< 7) ||| (av.setWidth 24 <<< 6) |||
      a.setWidth 24 = powerCycleValue gv g av a := by
  rw [show 0xFEE000#24 = (0x7F7#11).setWidth 24 <<< 13 by decide,
    shiftLeft_or_shiftLeft 24 0x7F7#11 gv 13 12 rfl, shiftLeft_or_shiftLeft 24 (0x7F7#11 ++ gv) g 12 7 rfl,
    shiftLeft_or_shiftLeft 24 (0x7F7#11 ++ gv ++ g) av 7 6 rfl]
  exact (shiftLeft_or 24 (0x7F7#11 ++ gv ++ g ++ av) a).trans (BitVec.setWidth_eq _)

theorem assemble_event (s23 s22 : BitVec 1) (f1 : BitVec 5) (s15 : BitVec 1) (f2 : BitVec 5) (ev : BitVec 10) :
    assemble (asmEvent s23 s22 f1 s15 f2 ev) = frameWord 24#8 (eventValue s23 s22 f1 s15 f2 ev) := by
  rw [asmEvent, assemble_f24, eventValue_shift]

/-! ### The pseudo-operations of R86 -/

theorem assemble_gearShort (a : BitVec 6) (op : Byte) : assemble (asmGearShort a op) = encode (.a16Short a op) := by
  rw [asmGearShort, (shortByte_shift a).1, assemble_bytes16]
  rfl

theorem assemble_gearGroup (g : BitVec 4) (op : Byte) : assemble (asmGearGroup g op) = encode (.a16Group 0#1 g op) := by
  rw [asmGearGroup, (groupByte_shift g).1, assemble_bytes16]
  rfl

theorem assemble_devShort (a : BitVec 6) (ib op : Byte) :
    assemble (asmDevShort a ib op) = encode (.a24Short a ib op) := by
  rw [asmDevShort, (shortByte_shift a).2, assemble_bytes24]
  rfl

theorem assemble_devGroup (g : BitVec 4) (ib op : Byte) :
    assemble (asmDevGroup g ib op) = encode (.a24Group 0#1 g ib op) := by
  rw [asmDevGroup, (groupByte_shift g).2, assemble_bytes24]
  rfl

theorem assemble_initialise (op : Byte) : assemble (asmInitialise op) = encode (.s24InitialiseNone op) :=
  (congrArg (fun x => assemble (.f24 (x ||| op.setWidth 24))) (by decide)).trans (assemble_bytes24 0xC1#8 0x01#8 op)

theorem assemble_power (gv : BitVec 1) (g : BitVec 5) (av : BitVec 1) (a : BitVec 6) :
    assemble (asmPower gv g av a) = encode (.e24PowerCycle gv g av a) := by
  rw [asmPower, assemble_f24, powerCycleValue_shift, encode]

/-- Settles O33. -/
theorem pseudoOperationsAssemble : Obligations.PseudoOperationsAssemble := by
  unfold Obligations.PseudoOperationsAssemble
  refine ⟨⟨rfl, by decide, assemble_loadctx, assemble_f8, assemble_f16, assemble_f24, assemble_frame⟩,
    assemble_gearShort, assemble_gearGroup, fun op => ⟨?bc, ?bcu⟩, assemble_devShort, assemble_devGroup,
    fun ib op => ⟨?dbc, ?dbcu, ?c1, assemble_initialise op⟩, assemble_power, fun s22 f1 f2 ev => ?events⟩
  case bc => exact assemble_bytes16 0xFF#8 op
  case bcu => exact assemble_bytes16 0xFD#8 op
  case dbc => exact assemble_bytes24 0xFF#8 ib op
  case dbcu => exact assemble_bytes24 0xFD#8 ib op
  case c1 => exact assemble_bytes24 0xC1#8 ib op
  case events =>
    exact ⟨assemble_event _ _ _ _ _ _, assemble_event _ _ _ _ _ _, assemble_event _ _ _ _ _ _,
      assemble_event _ _ _ _ _ _, assemble_event _ _ _ _ _ _, assemble_event _ _ _ _ _ _⟩

/-! ### Fixed words -/

/-- Settles O32: closed words, evaluated one by one. -/
theorem wordsDecodeAsTheFormatsSay : Obligations.WordsDecodeAsTheFormatsSay := by
  unfold Obligations.WordsDecodeAsTheFormatsSay
  decide

end Sys2Proof.Proofs
end

section
/-! PROOF. The functions of the pseudocode (R96 to R98, R110, R130, R133, R150, R152, R170, R200), each said once in the
fields the decoder reads. The pseudocode takes a field out of a word by shifts and masks, the decoder by bit ranges; after
this file no proof meets a shift. -/

namespace Sys2Proof.Proofs

open Sys2Proof.Machine Sys2Proof.Laws

/-! ### Fields by shift and mask -/

theorem specOpLen_eq (w : OpWord) : (w >>> 24).setWidth 8 = opLen w := BitVec.setWidth_ushiftRight_eq_extractLsb

theorem specOpValue_eq (w : OpWord) : w.setWidth 24 = opValue w := BitVec.setWidth_eq_extractLsb' (by decide)

theorem specOpSel_eq (w : OpWord) : (w >>> 32).toNat = (opSel w).toNat := by
  rw [opSel, BitVec.extractLsb'_toNat, BitVec.toNat_ushiftRight, Nat.mod_eq_of_lt]
  have hw := w.isLt
  rw [Nat.shiftRight_eq_div_pow]
  omega

theorem specByteHi_eq (v : Value) : (v >>> 16).setWidth 8 = byteHi v := BitVec.setWidth_ushiftRight_eq_extractLsb

theorem specByteMid_eq (v : Value) : (v >>> 8).setWidth 8 = byteMid v := BitVec.setWidth_ushiftRight_eq_extractLsb

theorem specByteLo_eq (v : Value) : v.setWidth 8 = byteLo v := BitVec.setWidth_eq_extractLsb' (by decide)

/-- A field of `k` bits at bit `n`, by a shift and a mask. -/
theorem shift_mask_eq_extract {w : Nat} (x mask : BitVec w) (n k m : Nat) (hmask : mask.toNat = 2 ^ k - 1) :
    ((x >>> n) &&& mask).setWidth m = (x.extractLsb' n k).setWidth m := by
  apply BitVec.eq_of_toNat_eq
  rw [BitVec.toNat_setWidth, BitVec.toNat_and, hmask, Nat.and_two_pow_sub_one_eq_mod, BitVec.toNat_ushiftRight,
    BitVec.toNat_setWidth, BitVec.extractLsb'_toNat]

theorem getLsbD_eq_extract (v : Value) (n : Nat) : v.getLsbD n = decide (v.extractLsb' n 1 = 1#1) := by
  have hbit : (v.extractLsb' n 1).getLsbD 0 = v.getLsbD n := by simp
  rw [← hbit]
  generalize v.extractLsb' n 1 = b
  revert b
  decide

theorem specPattern_iff (v : Value) : v.toNat / 2 ^ 13 = 0x7F7 ↔ v.extractLsb' 13 11 = 0x7F7#11 := by
  rw [BitVec.toNat_eq, BitVec.extractLsb'_toNat, Nat.shiftRight_eq_div_pow, Nat.mod_eq_of_lt (by omega)]
  rfl

/-! ### The command stages -/

theorem isFamily_iff (op : Byte) : isFamily op = true ↔ op &&& 0xF0#8 ∈ familyBases := by
  simp [isFamily, familyBases, or_assoc]

theorem specGearCmd_family {op : Byte} (h : isFamily op = true) (img : Image) :
    specGearCmd img op = (.gearCounted, op &&& 0xF0#8) :=
  if_pos ((isFamily_iff op).mp h)

theorem specGearCmd_table {op : Byte} (h : isFamily op = false) (img : Image) :
    specGearCmd img op = if (memRead img .gear op).isSome then (.gearNamed, op) else (.gearUndef, 0#8) :=
  if_neg (mt (isFamily_iff op).mpr (by simp [h]))

/-- What `DEC16` (R97) continues with: the command of an address kind and an opcode byte. -/
def command16 (img : Image) (k : AddrKind) (op : Byte) : CmdKind × Byte :=
  match k with
  | .short | .group | .bcUnaddr | .bc => specGearCmd img op
  | .special => (.spc16Unknown, 0#8)
  | .reserved => (.reserved, 0#8)
  | _ => (.unmatched, 0#8)

/-- What `DEC24` (R98) continues with after an odd address byte. -/
def command24 (img : Image) (k : AddrKind) (ab ib op : Byte) : CmdPart :=
  match k with
  | .short | .group | .bcUnaddr | .bc => specCtrlCmd img op
  | .special => specSpecial24 img ab ib op
  | _ => ⟨.reserved, 0#8, .plain, .unaddressed⟩

theorem command16_formPart (img : Image) (form : AddrForm) (op : Byte) :
    command16 img (formPart form).akind op = specGearCmd img op := by
  cases form <;> rfl

theorem command24_formPart (img : Image) (form : AddrForm) (ab ib op : Byte) :
    command24 img (formPart form).akind ab ib op = specCtrlCmd img op := by
  cases form <;> rfl

/-! ### The resolver on the address bytes without fields (R110, R116 to R118) -/

theorem specResolve_special16 : ∀ n : BitVec 5, n ≠ 0#5 → specResolve (6#3 ++ n) = (.special, 0#6, false) := by
  decide

theorem specResolve_reservedE : ∀ n : BitVec 4, n ≠ 0#4 → specResolve (14#4 ++ n) = (.reserved, 0#6, false) := by
  decide

theorem specResolve_reservedF1 : ∀ n : BitVec 3, n ≠ 0#3 → specResolve (30#5 ++ n) = (.reserved, 0#6, false) := by
  decide

theorem specResolve_reservedF8 : ∀ n : BitVec 2, specResolve (62#6 ++ n) = (.reserved, 0#6, false) := by
  decide

theorem specResolve_unmatched : ∀ ab : Byte, isUnmatchedRest ab = true → specResolve ab = (.unmatched, 0#6, false) := by
  decide

theorem specResolve_special24 : ∀ n : BitVec 4, n ≠ 0#4 → specResolve (6#3 ++ n ++ 1#1) = (.special, 0#6, false) := by
  decide

theorem specResolve_a24ReservedE : ∀ n : BitVec 3, specResolve (14#4 ++ n ++ 1#1) = (.reserved, 0#6, false) := by
  decide

theorem specResolve_a24ReservedF1 : ∀ n : BitVec 2, specResolve (30#5 ++ n ++ 1#1) = (.reserved, 0#6, false) := by
  decide

theorem specResolve_a24ReservedF9 : ∀ n : BitVec 1, specResolve (62#6 ++ n ++ 1#1) = (.reserved, 0#6, false) := by
  decide

/-! ### Special commands (R170, R171) -/

theorem unknownByte_ne : ∀ n : BitVec 4, (n != 0#4 && n != 2#4 && n != 3#4 && n != 4#4) = true →
    6#3 ++ n ++ 1#1 ≠ 0xC1#8 ∧ 6#3 ++ n ++ 1#1 ≠ 0xC5#8 ∧ 6#3 ++ n ++ 1#1 ≠ 0xC7#8 ∧ 6#3 ++ n ++ 1#1 ≠ 0xC9#8 := by
  decide

theorem specInitSub_one : ∀ k : BitVec 6, specInitSub (0#1 ++ k ++ 1#1) = .one := by
  decide

theorem specInitSub_none : ∀ op : Byte, (Instr.s24InitialiseNone op).wellFormed = true →
    specInitSub op = .noneResponds := by
  decide

section
variable (img : Image)

theorem specSpecial24_c1_hit {ib : Byte} (hib : ib ≠ 0x01#8) {e : RomEntry} (hread : memRead img .c1 ib = some e)
    (op : Byte) : specSpecial24 img 0xC1#8 ib op = ⟨.spcC1Named, ib, e.shape, .unaddressed⟩ := by
  simp [specSpecial24, hib, hread]

theorem specSpecial24_c1_miss {ib : Byte} (hib : ib ≠ 0x01#8) (hread : memRead img .c1 ib = none) (op : Byte) :
    specSpecial24 img 0xC1#8 ib op = CmdPart.bare .spcC1Undef := by
  simp [specSpecial24, hib, hread, CmdPart.bare]

theorem specSpecial24_unknown {ab : Byte} (hab : ab ≠ 0xC1#8 ∧ ab ≠ 0xC5#8 ∧ ab ≠ 0xC7#8 ∧ ab ≠ 0xC9#8) (ib op : Byte) :
    specSpecial24 img ab ib op = CmdPart.bare .spcUnknown := by
  obtain ⟨hC1, hC5, hC7, hC9⟩ := hab
  simp [specSpecial24, hC1, hC5, hC7, hC9, CmdPart.bare]

end

/-! ### The records -/

theorem specDec8_eq (v : Value) (ctx : Byte) : specDec8 v ctx = record8 (byteLo v) ctx := by
  rw [← specByteLo_eq]
  rfl

theorem specDec16_eq (img : Image) (v : Value) :
    specDec16 img v = frame16Record (specResolve (byteMid v)) (byteMid v) (byteLo v)
      (command16 img (specResolve (byteMid v)).1 (byteLo v)) := by
  rw [← specByteMid_eq, ← specByteLo_eq]
  rfl

theorem specDec24_odd (img : Image) {v : Value} (hodd : (byteHi v).getLsbD 0 = true) (ctx : Byte) :
    specDec24 img v ctx = frame24Record (specResolve (byteHi v)) (byteHi v) (byteMid v) (byteLo v)
      (command24 img (specResolve (byteHi v)).1 (byteHi v) (byteMid v) (byteLo v)) ctx := by
  rw [← specByteHi_eq] at hodd
  rw [← specByteHi_eq, ← specByteMid_eq, ← specByteLo_eq]
  exact if_neg fun heven => absurd (hodd.symm.trans heven) (by decide)

theorem specDec24_even (img : Image) {v : Value} (heven : (byteHi v).getLsbD 0 = false) (ctx : Byte) :
    specDec24 img v ctx = specEvent v ctx := by
  rw [← specByteHi_eq] at heven
  exact if_pos heven

/-! ### Events -/

/-- The record of an event frame (R130): its three bytes echoed, no table entry named. -/
def eventValueRecord (adr : AddrPart) (c : CmdKind) (v : Value) (ctx : Byte) : Decoded :=
  record24 adr (CmdPart.bare c) (byteHi v) (byteMid v) (byteLo v) ctx

theorem acceptEvent_eq (adr : AddrPart) (c : CmdKind) (v : Value) (s : State) :
    acceptEvent adr c v s = afterAccepted s (eventValueRecord adr c v s.ctx) := rfl

theorem specEvent_powerCycle (gv : BitVec 1) (g : BitVec 5) (av : BitVec 1) (a : BitVec 6) (ctx : Byte) :
    specEvent (powerCycleValue gv g av a) ctx =
      eventValueRecord (powerCyclePart gv g av a) .powerCycle (powerCycleValue gv g av a) ctx := by
  have hpattern := (specPattern_iff _).mpr (powerCycleValue_pattern gv g av a)
  have hgv := powerCycleValue_gv gv g av a
  have hg := powerCycleValue_g gv g av a
  have hav := powerCycleValue_av gv g av a
  have ha := powerCycleValue_a gv g av a
  generalize powerCycleValue gv g av a = v at *
  have hgField : ((v >>> 7) &&& 0x1F#24).setWidth 6 = g.setWidth 6 := by
    rw [shift_mask_eq_extract v 0x1F#24 7 5 6 rfl, hg]
  have haField : (v &&& 0x3F#24).setWidth 6 = a := by
    have hmask := shift_mask_eq_extract v 0x3F#24 0 6 6 rfl
    rwa [BitVec.ushiftRight_zero, ha, BitVec.setWidth_eq] at hmask
  unfold eventValueRecord
  rw [← specByteHi_eq, ← specByteMid_eq, ← specByteLo_eq]
  simp only [specEvent, if_pos hpattern, getLsbD_eq_extract, hgv, hav, hgField, haField, decide_eq_true_eq]
  rfl

/-- The address part of an event by its category: both fields, but none for the reserved one (R134 to R139). -/
def categoryPart (f1 f2 : BitVec 5) : EventCategory → AddrPart
  | .reserved => AddrPart.bare .evReserved
  | cat => eventPart cat.akind f1 f2

/-- The command kind of an event by its category (R139, R140). -/
def categoryKind : EventCategory → CmdKind
  | .reserved => .eventReserved
  | _ => .event

section
variable (s23 s22 : BitVec 1) (f1 : BitVec 5) (s15 : BitVec 1) (f2 : BitVec 5) (ev : BitVec 10)

theorem specEvcat_eventValue :
    specEvcat (eventValue s23 s22 f1 s15 f2 ev) =
      if s23 = 1#1 then
        if s22 = 1#1 then if s15 = 1#1 then .reserved else .instGroup
        else if s15 = 1#1 then .inst else .deviceGroup
      else if s15 = 1#1 then .deviceInstance else .device := by
  simp only [specEvcat, getLsbD_eq_extract, eventValue_s23, eventValue_s22, eventValue_s15, decide_eq_true_eq]

/-- Off the power-cycle pattern an event's record is its category's (R130, R141). -/
theorem specEvent_eventValue {cat : EventCategory} (hcat : specEvcat (eventValue s23 s22 f1 s15 f2 ev) = cat)
    (h : ¬ (s23 = 1#1 ∧ s22 = 1#1 ∧ f1 = 31#5 ∧ s15 = 1#1 ∧ f2.extractLsb' 3 2 = 3#2)) (ctx : Byte) :
    specEvent (eventValue s23 s22 f1 s15 f2 ev) ctx =
      eventValueRecord (categoryPart f1 f2 cat) (categoryKind cat) (eventValue s23 s22 f1 s15 f2 ev) ctx := by
  have hpattern := mt ((specPattern_iff _).trans (eventValue_isPowerCycle_iff s23 s22 f1 s15 f2 ev)).mp h
  have hf1 := eventValue_f1 s23 s22 f1 s15 f2 ev
  have hf2 := eventValue_f2 s23 s22 f1 s15 f2 ev
  generalize eventValue s23 s22 f1 s15 f2 ev = v at *
  have hf1Field : ((v >>> 17) &&& 0x1F#24).setWidth 6 = f1.setWidth 6 := by
    rw [shift_mask_eq_extract v 0x1F#24 17 5 6 rfl, hf1]
  have hf2Field : ((v >>> 10) &&& 0x1F#24).setWidth 6 = f2.setWidth 6 := by
    rw [shift_mask_eq_extract v 0x1F#24 10 5 6 rfl, hf2]
  unfold eventValueRecord
  rw [← specByteHi_eq, ← specByteMid_eq, ← specByteLo_eq]
  simp only [specEvent, if_neg hpattern, hf1Field, hf2Field, hcat]
  cases cat <;> rfl

end

/-! ### FRAME -/

/-- A length the block decodes (R63). -/
theorem lengths_toNat (len : Byte) :
    (len.toNat = 8 ∨ len.toNat = 16 ∨ len.toNat = 24) ↔ (len = 8#8 ∨ len = 16#8 ∨ len = 24#8) := by
  simp [BitVec.toNat_eq]

theorem specDecode_badLen (img : Image) {len : Byte} (hlen : ¬ (len = 8#8 ∨ len = 16#8 ∨ len = 24#8)) (v : Value)
    (ctx : Byte) : specDecode img len v ctx = .error .len := by
  rw [← lengths_toNat, not_or, not_or] at hlen
  exact if_pos hlen

theorem specDecode_range (img : Image) {len : Byte} (hlen : len = 8#8 ∨ len = 16#8 ∨ len = 24#8) {v : Value}
    (hv : ¬ v.toNat < 2 ^ len.toNat) (ctx : Byte) : specDecode img len v ctx = .error .range := by
  rw [← lengths_toNat] at hlen
  exact (if_neg (by omega)).trans (if_pos (not_lt.mp hv))

theorem specDecode_8 (img : Image) {v : Value} (hv : v.toNat < 2 ^ 8) (ctx : Byte) :
    specDecode img 8#8 v ctx = .ok (specDec8 v ctx) :=
  if_neg (not_le.mpr hv)

theorem specDecode_16 (img : Image) {v : Value} (hv : v.toNat < 2 ^ 16) (ctx : Byte) :
    specDecode img 16#8 v ctx = .ok (specDec16 img v) :=
  if_neg (not_le.mpr hv)

theorem specDecode_24 (img : Image) (v : Value) (ctx : Byte) :
    specDecode img 24#8 v ctx = .ok (specDec24 img v ctx) :=
  if_neg (not_le.mpr v.isLt)

theorem specFrame_ok {s : State} {len : Byte} {v : Value} {dc : Decoded}
    (h : specDecode s.cfg.img len v s.ctx = .ok dc) : specFrame s len v = afterAccepted s dc := by
  simp only [specFrame, h]
  rfl

theorem specFrame_error {s : State} {len : Byte} {v : Value} {e : ErrCode}
    (h : specDecode s.cfg.img len v s.ctx = .error e) : specFrame s len v = afterRejected s e := by
  simp only [specFrame, h]
  rfl

end Sys2Proof.Proofs
end

section
/-! PROOF. The row-driven machine is the pseudocode of the spec (R90 to R98). Every row has, on the word it is encoded by,
the effect of the pseudocode on that word; and a word of supported length is the word of its row (R80). -/

namespace Sys2Proof.Proofs

open Sys2Proof.Machine Sys2Proof.Laws

/-! ### Accepted frames, as the spec writes them -/

theorem reject_eq_afterRejected (s : State) (e : ErrCode) : s.reject e = afterRejected s e := rfl

/-- An addressed form fills the first field alone, so its record is the one the spec builds from the resolver (R97). -/
theorem accept16_formPart (s : State) (form : AddrForm) (k : CmdKind) (tmpl op : Byte) :
    s.accept16 (formPart form) ⟨k, tmpl, .plain, .unaddressed⟩ form.byte op =
      afterAccepted s (frame16Record (specResolve form.byte) form.byte op (k, tmpl)) := by
  rw [specResolve_formByte]
  cases form <;> rfl

theorem accept24_formPart (s : State) (form : AddrForm) (cmd : CmdPart) (ib op : Byte) :
    s.accept24 (formPart form) cmd form.byte ib op =
      afterAccepted s (frame24Record (specResolve form.byte) form.byte ib op cmd s.ctx) :=
  congrArg (afterAccepted s) (record24_formPart form cmd ib op s.ctx)

/-- An address byte without fields: the record is the one the spec builds from the resolver. -/
theorem accept16_bare (s : State) {k : AddrKind} {ab : Byte} (h : specResolve ab = (k, 0#6, false)) (c : CmdKind)
    (op : Byte) : s.accept16 (AddrPart.bare k) (CmdPart.bare c) ab op =
      afterAccepted s (frame16Record (specResolve ab) ab op (c, 0#8)) := by
  rw [h]
  rfl

theorem accept24_bare (s : State) {k : AddrKind} {ab : Byte} (h : specResolve ab = (k, 0#6, false)) (cmd : CmdPart)
    (ib op : Byte) : s.accept24 (AddrPart.bare k) cmd ab ib op =
      afterAccepted s (frame24Record (specResolve ab) ab ib op cmd s.ctx) := by
  rw [h]
  rfl

/-! ### The command stages (R152, R200) -/

theorem gearStage_eq (form : AddrForm) (op : Byte) (s : State) :
    gearStage form op s = .next
      (afterAccepted s (frame16Record (specResolve form.byte) form.byte op (specGearCmd s.cfg.img op))) := by
  obtain ⟨hfamily, hexec⟩ | ⟨hfamily, hexec⟩ := gearStage_cases form op s
  · rw [hexec, specGearCmd_family hfamily, accept16_formPart]
  · rw [hexec, specGearCmd_table hfamily]
    obtain ⟨e, hread, hlut⟩ | ⟨hread, hlut⟩ := execG16Lut_cases form op s
    · rw [hlut, hread, accept16_formPart]
      rfl
    · rw [hlut, hread, CmdPart.bare, accept16_formPart]
      rfl

theorem execG24Lut_eq (form : AddrForm) (ib op : Byte) (s : State) :
    execG24Lut form ib op s = .next
      (afterAccepted s (frame24Record (specResolve form.byte) form.byte ib op (specCtrlCmd s.cfg.img op) s.ctx)) := by
  obtain ⟨e, hread, hlut⟩ | ⟨hread, hlut⟩ := execG24Lut_cases form ib op s
  · rw [hlut, accept24_formPart, specCtrlCmd, hread]
    rfl
  · rw [hlut, accept24_formPart, specCtrlCmd, hread]
    rfl

theorem execS24C1Lut_eq {ib : Byte} (hib : ib ≠ 0x01#8) (op : Byte) (s : State) :
    execS24C1Lut ib op s = .next (acceptSpecial (specSpecial24 s.cfg.img 0xC1#8 ib op) 0xC1#8 ib op s) := by
  obtain ⟨e, hread, hlut⟩ | ⟨hread, hlut⟩ := execS24C1Lut_cases ib op s
  · rw [hlut, specSpecial24_c1_hit _ hib hread]
    rfl
  · rw [hlut, specSpecial24_c1_miss _ hib hread]
    rfl

/-! ### The pseudocode on a word of each format -/

theorem specFrame_word16 (s : State) (ab op : Byte) :
    specFrame s 16#8 (0#8 ++ ab ++ op) =
      afterAccepted s (frame16Record (specResolve ab) ab op (command16 s.cfg.img (specResolve ab).1 op)) := by
  have hrange : (0#8 ++ ab ++ op : Value).toNat < 2 ^ 16 := (value_lt_16_iff _).mpr (byteHi_append 0#8 ab op)
  rw [specFrame_ok (specDecode_16 _ hrange _), specDec16_eq, byteMid_append, byteLo_append]

theorem specFrame_word24 (s : State) {ab : Byte} (hodd : ab.getLsbD 0 = true) (ib op : Byte) :
    specFrame s 24#8 (ab ++ ib ++ op) =
      afterAccepted s (frame24Record (specResolve ab) ab ib op
        (command24 s.cfg.img (specResolve ab).1 ab ib op) s.ctx) := by
  rw [specFrame_ok (specDecode_24 _ _ _), specDec24_odd _ ((byteHi_append ab ib op).symm ▸ hodd), byteHi_append,
    byteMid_append, byteLo_append]

theorem specFrame_event (s : State) {v : Value} (heven : v.extractLsb' 16 1 = 0#1) :
    specFrame s 24#8 v = afterAccepted s (specEvent v s.ctx) := by
  rw [specFrame_ok (specDecode_24 _ _ _), specDec24_even _ (byteHi_even_of_selector heven)]

/-! ### Each row has the effect of the pseudocode -/

/-- The row `i` has, in every state, the effect of the pseudocode on the FRAME that is `i`'s own word. -/
def HasSpecEffect (i : Instr) : Prop :=
  ∀ s : State, exec i s = .next (specFrame s (opLen (encode i)) (opValue (encode i)))

section
variable {i : Instr} {len ab ib op : Byte} {v : Value}

theorem HasSpecEffect.ofWord (hword : encode i = frameWord len v) (h : ∀ s, exec i s = .next (specFrame s len v)) :
    HasSpecEffect i := by
  unfold HasSpecEffect
  rwa [hword, opLen_frameWord, opValue_frameWord]

theorem HasSpecEffect.ofReject {e : ErrCode} (hword : encode i = frameWord len v)
    (h : ∀ s, exec i s = .next (s.reject e)) (hspec : ∀ img ctx, specDecode img len v ctx = .error e) :
    HasSpecEffect i := .ofWord hword fun s => by
  rw [h, specFrame_error (hspec _ _), reject_eq_afterRejected]

theorem HasSpecEffect.ofGearForm (form : AddrForm) (hword : encode i = word16 form.byte op)
    (h : ∀ s, exec i s = gearStage form op s) : HasSpecEffect i := .ofWord hword fun s => by
  rw [h, gearStage_eq, specFrame_word16, specResolve_formByte, command16_formPart]

theorem HasSpecEffect.ofUnaddressed16 {k : AddrKind} {c : CmdKind} (hword : encode i = word16 ab op)
    (h : ∀ s, exec i s = .next (unaddressed16 k c ab op s)) (hresolve : specResolve ab = (k, 0#6, false))
    (hcmd : ∀ img, command16 img k op = (c, 0#8)) : HasSpecEffect i := .ofWord hword fun s => by
  rw [h, unaddressed16, accept16_bare s hresolve, specFrame_word16, hresolve, hcmd]

theorem HasSpecEffect.ofControlForm (form : AddrForm) (hword : encode i = word24 form.byte ib op)
    (h : ∀ s, exec i s = execG24Lut form ib op s) : HasSpecEffect i := .ofWord hword fun s => by
  rw [h, execG24Lut_eq, specFrame_word24 s (formByte_odd form), specResolve_formByte, command24_formPart]

theorem HasSpecEffect.ofReserved24 (hword : encode i = word24 ab ib op)
    (h : ∀ s, exec i s = .next (reserved24 ab ib op s)) (hodd : ab.getLsbD 0 = true)
    (hresolve : specResolve ab = (.reserved, 0#6, false)) : HasSpecEffect i := .ofWord hword fun s => by
  rw [h, reserved24, accept24_bare s hresolve, specFrame_word24 s hodd, hresolve]
  rfl

theorem HasSpecEffect.ofSpecial (hword : encode i = word24 ab ib op)
    (h : ∀ s, exec i s = .next (acceptSpecial (specSpecial24 s.cfg.img ab ib op) ab ib op s)) (hodd : ab.getLsbD 0 = true)
    (hresolve : specResolve ab = (.special, 0#6, false)) : HasSpecEffect i := .ofWord hword fun s => by
  rw [h, acceptSpecial, accept24_bare s hresolve, specFrame_word24 s hodd, hresolve]
  rfl

theorem HasSpecEffect.ofInitialise (hword : encode i = word24 0xC1#8 0x01#8 op)
    (h : ∀ s, exec i s = .next (initialise (specInitSub op) op s)) : HasSpecEffect i :=
  .ofSpecial hword h (by decide) (by decide)

/-- The event rows, off the power-cycle pattern: the row is its category's. -/
theorem HasSpecEffect.ofEvent {s23 s22 s15 : BitVec 1} {f1 f2 : BitVec 5} {ev : BitVec 10} (cat : EventCategory)
    (hword : encode i = frameWord 24#8 (eventValue s23 s22 f1 s15 f2 ev))
    (h : ∀ s, exec i s =
      .next (acceptEvent (categoryPart f1 f2 cat) (categoryKind cat) (eventValue s23 s22 f1 s15 f2 ev) s))
    (hcat : specEvcat (eventValue s23 s22 f1 s15 f2 ev) = cat)
    (hpattern : ¬ (s23 = 1#1 ∧ s22 = 1#1 ∧ f1 = 31#5 ∧ s15 = 1#1 ∧ f2.extractLsb' 3 2 = 3#2)) :
    HasSpecEffect i := .ofWord hword fun s => by
  rw [h, acceptEvent_eq, specFrame_event s (eventValue_selector s23 s22 f1 s15 f2 ev),
    specEvent_eventValue _ _ _ _ _ _ hcat hpattern]

end

/-- Every well-formed row of a FRAME has the effect of the pseudocode on its word. -/
theorem frameRow_hasSpecEffect (i : Instr) (htop : i.isTop = true) (hframe : isFrameRow i = true)
    (hwf : i.wellFormed = true) : HasSpecEffect i := by
  cases i with
  | f8Data data =>
    have hrange : (0#16 ++ data : Value).toNat < 2 ^ 8 := (value_lt_8_iff _).mpr (highHalf_data data)
    refine .ofWord rfl fun s => ?_
    rw [specFrame_ok (specDecode_8 _ hrange _), specDec8_eq, byteLo_data]
    rfl
  | f8ErrRange v =>
    have hrange : ¬ v.toNat < 2 ^ 8 := by simpa [Instr.wellFormed] using hwf
    exact .ofReject rfl (fun _ => rfl) fun img => specDecode_range img (.inl rfl) hrange
  | a16Short a op => exact .ofGearForm (.short a) rfl fun _ => rfl
  | a16Group x g op => exact .ofGearForm (.group x g) rfl fun _ => rfl
  | a16BcUnaddr op => exact .ofGearForm .bcUnaddr rfl fun _ => rfl
  | a16Bc op => exact .ofGearForm .bc rfl fun _ => rfl
  | a16UnmatchedC0 op => exact .ofUnaddressed16 rfl (fun _ => rfl) (by decide) fun _ => rfl
  | a16Special n op =>
    exact .ofUnaddressed16 rfl (fun _ => rfl) (specResolve_special16 n (bne_iff_ne.mp hwf)) fun _ => rfl
  | a16UnmatchedE0 op => exact .ofUnaddressed16 rfl (fun _ => rfl) (by decide) fun _ => rfl
  | a16ReservedE n op =>
    exact .ofUnaddressed16 rfl (fun _ => rfl) (specResolve_reservedE n (bne_iff_ne.mp hwf)) fun _ => rfl
  | a16UnmatchedF0 op => exact .ofUnaddressed16 rfl (fun _ => rfl) (by decide) fun _ => rfl
  | a16ReservedF1 n op =>
    exact .ofUnaddressed16 rfl (fun _ => rfl) (specResolve_reservedF1 n (bne_iff_ne.mp hwf)) fun _ => rfl
  | a16ReservedF8 n op => exact .ofUnaddressed16 rfl (fun _ => rfl) (specResolve_reservedF8 n) fun _ => rfl
  | a16Unmatched ab op => exact .ofUnaddressed16 rfl (fun _ => rfl) (specResolve_unmatched ab hwf) fun _ => rfl
  | f16ErrRange v =>
    have hrange : ¬ v.toNat < 2 ^ 16 := by simpa [Instr.wellFormed] using hwf
    exact .ofReject rfl (fun _ => rfl) fun img => specDecode_range img (.inr (.inl rfl)) hrange
  | e24PowerCycle gv g av a =>
    refine .ofWord rfl fun s => ?_
    rw [specFrame_event s (powerCycleValue_selector gv g av a), specEvent_powerCycle]
    rfl
  | e24Reserved f1 f2 ev =>
    have hpattern : ¬ (f1 = 31#5 ∧ f2.extractLsb' 3 2 = 3#2) := by simpa [Instr.wellFormed, ← not_and_or] using hwf
    exact .ofEvent .reserved rfl (fun _ => rfl) (specEvcat_eventValue _ _ f1 _ f2 ev)
      fun ⟨_, _, hf1, _, hf2⟩ => hpattern ⟨hf1, hf2⟩
  | e24InstanceGroup f1 f2 ev =>
    exact .ofEvent .instGroup rfl (fun _ => rfl) (specEvcat_eventValue _ _ f1 _ f2 ev) (by simp)
  | e24Instance f1 f2 ev =>
    exact .ofEvent .inst rfl (fun _ => rfl) (specEvcat_eventValue _ _ f1 _ f2 ev) (by simp)
  | e24DeviceGroup f1 f2 ev =>
    exact .ofEvent .deviceGroup rfl (fun _ => rfl) (specEvcat_eventValue _ _ f1 _ f2 ev) (by simp)
  | e24DeviceInstance s22 f1 f2 ev =>
    exact .ofEvent .deviceInstance rfl (fun _ => rfl) (specEvcat_eventValue _ s22 f1 _ f2 ev) (by simp)
  | e24Device s22 f1 f2 ev =>
    exact .ofEvent .device rfl (fun _ => rfl) (specEvcat_eventValue _ s22 f1 _ f2 ev) (by simp)
  | a24Short a ib op => exact .ofControlForm (.short a) rfl fun _ => rfl
  | a24Group x g ib op => exact .ofControlForm (.group x g) rfl fun _ => rfl
  | a24BcUnaddr ib op => exact .ofControlForm .bcUnaddr rfl fun _ => rfl
  | a24Bc ib op => exact .ofControlForm .bc rfl fun _ => rfl
  | s24InitialiseUnaddressed => exact .ofInitialise rfl fun _ => rfl
  | s24InitialiseAll => exact .ofInitialise rfl fun _ => rfl
  | s24InitialiseOne k => exact .ofInitialise rfl fun s => by rw [specInitSub_one]; rfl
  | s24InitialiseNone op => exact .ofInitialise rfl fun s => by rw [specInitSub_none op hwf]; rfl
  | s24C1Lut ib op => exact .ofSpecial rfl (execS24C1Lut_eq (bne_iff_ne.mp hwf) op) (by decide) (by decide)
  | s24DirectWrite ib op => exact .ofSpecial rfl (fun _ => rfl) (by decide) (by decide)
  | s24Dtr1Dtr0 ib op => exact .ofSpecial rfl (fun _ => rfl) (by decide) (by decide)
  | s24Dtr2Dtr1 ib op => exact .ofSpecial rfl (fun _ => rfl) (by decide) (by decide)
  | s24Unknown n ib op =>
    have hn : n ≠ 0#4 := by rintro rfl; cases hwf
    refine .ofSpecial rfl (fun s => ?_) (getLsbD_zero_append_one _) (specResolve_special24 n hn)
    rw [specSpecial24_unknown _ (unknownByte_ne n hwf)]
    rfl
  | a24ReservedE n ib op =>
    exact .ofReserved24 rfl (fun _ => rfl) (getLsbD_zero_append_one _) (specResolve_a24ReservedE n)
  | a24ReservedF1 n ib op =>
    exact .ofReserved24 rfl (fun _ => rfl) (getLsbD_zero_append_one _) (specResolve_a24ReservedF1 n)
  | a24ReservedF9 n ib op =>
    exact .ofReserved24 rfl (fun _ => rfl) (getLsbD_zero_append_one _) (specResolve_a24ReservedF9 n)
  | fErrLen len =>
    have hlen : ¬ (len = 8#8 ∨ len = 16#8 ∨ len = 24#8) := by simpa [Instr.wellFormed, and_assoc] using hwf
    exact .ofReject rfl (fun _ => rfl) fun img => specDecode_badLen img hlen 0#24
  | nop => cases hframe
  | loadCtx c => cases hframe
  | sreset => cases hframe
  | _ => cases htop

/-! ### The step -/

/-- A FRAME of supported length is the word of its row (R80), so the row's effect is the pseudocode's on the FRAME; any
other length both reject without looking at the value (R260). -/
theorem exec_decode_frame {w : OpWord} (hsel : opSel w = 1#2) (s : State) :
    exec (decode w) s = .next (specFrame s (opLen w) (opValue w)) := by
  by_cases hlen : opLen w = 8#8 ∨ opLen w = 16#8 ∨ opLen w = 24#8
  · have hspells := decode_frame_spells hsel hlen
    have hframe : isFrameRow (decode w) = true := decode_of_frame hsel ▸ decodeFrame_isFrameRow _ _
    have heffect := frameRow_hasSpecEffect _ hspells.top hframe hspells.wellFormed s
    rwa [hspells.encode_eq] at heffect
  · rw [specFrame_error (specDecode_badLen _ hlen _ _)]
    simp only [not_or] at hlen
    obtain ⟨h8, h16, h24⟩ := hlen
    rw [decode_of_frame hsel, decodeFrame_badLen _ h8 h16 h24]
    rfl

/-- A step on a presented FRAME is the FRAME of the pseudocode. -/
theorem step_eq_specFrame {s : State} {w : OpWord} {rest : List HostInput} (hinput : s.input = ⟨false, w⟩ :: rest)
    (hsel : opSel w = 1#2) : step s = .next (specFrame { s with input := rest } (opLen w) (opValue w)) :=
  (step_operation s w rest hinput).trans (exec_decode_frame hsel _)

/-- The pseudocode's `STEP` by the selector of the word (R61, R90). -/
theorem specStep_operation (s : State) (w : OpWord) :
    specStep s ⟨false, w⟩ =
      if opSel w = 0#2 then s.idle
      else if opSel w = 1#2 then specFrame s (opLen w) (opValue w)
      else if opSel w = 2#2 then s.loadCtx (w.extractLsb' 0 8)
      else s.sessionReset := by
  have hctx : w.setWidth 8 = w.extractLsb' 0 8 := BitVec.setWidth_eq_extractLsb' (by decide)
  simp only [specStep, specOpSel_eq, specOpLen_eq, specOpValue_eq, hctx]
  obtain hsel | hsel | hsel | hsel := opSel_cases w <;> rw [hsel] <;> rfl

/-- Settles O24: a reset and the three port operations have one effect in both machines, a FRAME has it by
`exec_decode_frame`. -/
theorem stepIsThePseudocode : Obligations.StepIsThePseudocode := by
  unfold Obligations.StepIsThePseudocode
  intro s p rest hinput
  obtain ⟨rst, w⟩ := p
  cases rst with
  | true => exact step_reset s w rest hinput
  | false =>
    rw [specStep_operation]
    obtain hsel | hsel | hsel | hsel := opSel_cases w
    · rw [step_operation s w rest hinput, decode_of_nop hsel, hsel]
      rfl
    · rw [step_eq_specFrame hinput hsel, hsel]
      rfl
    · rw [step_operation s w rest hinput, decode_of_loadCtx hsel, hsel]
      rfl
    · rw [step_operation s w rest hinput, decode_of_sreset hsel, hsel]
      rfl

end Sys2Proof.Proofs
end

section
/-! PROOF. What the dispatcher does with each operation (R91 to R95, R101) and with a FRAME (R92, R93): the port operations,
acceptance and `next_context` are read off the pseudocode, which the step is; the addressed frames off their command
stages. -/

namespace Sys2Proof.Proofs

open Sys2Proof.Machine Sys2Proof.Laws

/-! ### Port operations and reset -/

/-- Settles O3. -/
theorem hardwareResetIgnoresTheWord : Obligations.HardwareResetIgnoresTheWord := by
  unfold Obligations.HardwareResetIgnoresTheWord
  intro s w rest hinput
  exact ⟨step_reset s w rest hinput, step_reset s w rest hinput⟩

/-- Settles O4. -/
theorem nopClearsTheStrobeOnly : Obligations.NopClearsTheStrobeOnly := by
  unfold Obligations.NopClearsTheStrobeOnly
  refine ⟨fun s => rfl, fun s w rest hinput hsel => ?_, rfl⟩
  rw [step_operation s w rest hinput, decode_of_nop hsel]
  rfl

/-- Settles O5. -/
theorem loadCtxSetsTheContext : Obligations.LoadCtxSetsTheContext := by
  unfold Obligations.LoadCtxSetsTheContext
  refine ⟨fun c s => rfl, fun s w rest hinput hsel => ?_⟩
  rw [step_operation s w rest hinput, decode_of_loadCtx hsel]
  rfl

/-- Settles O6. -/
theorem sresetEqualsReset : Obligations.SresetEqualsReset := by
  unfold Obligations.SresetEqualsReset
  refine ⟨fun s => rfl, fun s w rest hinput hsel => ?_⟩
  rw [step_operation s w rest hinput, decode_of_sreset hsel]
  rfl

/-! ### The step answers -/

theorem Effect.input_eq {s t : State} {p : HostInput} (h : Effect s p t) : t.input = s.input := by
  cases h <;> simp

/-- Settles O25: every operation has an effect, and none touches what the host presents after it. -/
theorem stepAlwaysAnswers : Obligations.StepAlwaysAnswers := by
  unfold Obligations.StepAlwaysAnswers
  intro s p rest hinput
  obtain ⟨t, hstep, heffect⟩ := step_effect hinput
  exact ⟨t, hstep, heffect.input_eq⟩

/-! ### Acceptance and `next_context` -/

theorem specEvent_nextContext (v : Value) (ctx : Byte) : (specEvent v ctx).nextContext = ctx := by
  unfold specEvent
  split
  · rfl
  · split <;> rfl

theorem specDec24_nextContext (img : Image) (v : Value) (ctx : Byte) : (specDec24 img v ctx).nextContext = ctx := by
  cases hodd : (byteHi v).getLsbD 0 with
  | true =>
    rw [specDec24_odd img hodd]
    rfl
  | false => rw [specDec24_even img hodd, specEvent_nextContext]

/-- The context an accepted FRAME of length `len` leaves (R99). -/
def contextAfter (len ctx : Byte) : Byte := if len = 16#8 then 0#8 else ctx

/-- A FRAME in contract is decoded, and its `next_context` is the table of R99. -/
theorem specDecode_ok (img : Image) {len : Byte} (hlen : len = 8#8 ∨ len = 16#8 ∨ len = 24#8) {v : Value}
    (hv : v.toNat < 2 ^ len.toNat) (ctx : Byte) :
    ∃ dc, specDecode img len v ctx = .ok dc ∧ dc.nextContext = contextAfter len ctx := by
  obtain rfl | rfl | rfl := hlen
  · exact ⟨_, specDecode_8 img hv ctx, rfl⟩
  · exact ⟨_, specDecode_16 img hv ctx, rfl⟩
  · exact ⟨_, specDecode_24 img v ctx, specDec24_nextContext img v ctx⟩

/-- A FRAME in contract is accepted (R92). -/
theorem step_inContract {s : State} {w : OpWord} {rest : List HostInput} (hinput : s.input = ⟨false, w⟩ :: rest)
    (hw : inContract w) : ∃ dc, step s = .next (afterAccepted { s with input := rest } dc) ∧
      dc.nextContext = contextAfter (opLen w) s.ctx := by
  obtain ⟨hsel, hlen, hrange⟩ := hw
  obtain ⟨dc, hdecode, hctx⟩ := specDecode_ok s.cfg.img ((lengths_toNat _).mp hlen) hrange s.ctx
  exact ⟨dc, (step_eq_specFrame hinput hsel).trans (congrArg _ (specFrame_ok hdecode)), hctx⟩

/-- A FRAME out of contract is rejected (R93, R264). -/
theorem step_notInContract {s : State} {w : OpWord} {rest : List HostInput} (hinput : s.input = ⟨false, w⟩ :: rest)
    (hsel : opSel w = 1#2) (hw : ¬ inContract w) :
    ∃ e, e ≠ .none ∧ step s = .next (afterRejected { s with input := rest } e) := by
  rw [step_eq_specFrame hinput hsel]
  by_cases hlen : opLen w = 8#8 ∨ opLen w = 16#8 ∨ opLen w = 24#8
  · have hrange : ¬ (opValue w).toNat < 2 ^ (opLen w).toNat := fun h => hw ⟨hsel, (lengths_toNat _).mpr hlen, h⟩
    exact ⟨.range, by decide, by rw [specFrame_error (specDecode_range _ hlen hrange _)]⟩
  · exact ⟨.len, by decide, by rw [specFrame_error (specDecode_badLen _ hlen _ _)]⟩

/-- Settles O9: one side of the contract is accepted, the other rejected. -/
theorem frameAcceptedExactlyInContract : Obligations.FrameAcceptedExactlyInContract := by
  unfold Obligations.FrameAcceptedExactlyInContract
  intro s w rest hinput hsel
  by_cases hw : inContract w
  · obtain ⟨dc, hstep, -⟩ := step_inContract hinput hw
    exact ⟨_, hstep, rfl, fun _ => ⟨rfl, rfl, rfl⟩, fun hout => absurd hw hout⟩
  · obtain ⟨e, he, hstep⟩ := step_notInContract hinput hsel hw
    exact ⟨_, hstep, rfl, fun hin => absurd hin hw, fun _ => ⟨rfl, he⟩⟩

/-- Settles O38: an accepted FRAME hands its `next_context` to `CTX`, and the length alone decides between echo and NONE. -/
theorem nextContextTable : Obligations.NextContextTable := by
  unfold Obligations.NextContextTable
  intro s w hw
  obtain ⟨dc, hstep, hctx⟩ := step_inContract (s := s.presenting w) rfl hw
  have echoed {n : Nat} (hn : n ≠ 16) (hlen : (opLen w).toNat = n) : dc.nextContext = s.ctx :=
    hctx.trans (if_neg fun h16 => hn (hlen.symm.trans (congrArg BitVec.toNat h16)))
  have cleared (hlen : (opLen w).toNat = 16) : dc.nextContext = 0#8 :=
    hctx.trans (if_pos (BitVec.eq_of_toNat_eq hlen))
  exact ⟨_, hstep, rfl, echoed (by decide), cleared, echoed (by decide)⟩

/-! ### Addressed frames -/

/-- Settles O14: the rows run the command stage of their form, and the resolver gives the form's address. -/
theorem addressedGearFrames : Obligations.AddressedGearFrames := by
  unfold Obligations.AddressedGearFrames
  intro op s after
  have row (form : AddrForm) : gearStage form op s =
      .next (after ((formPart form).akind, (formPart form).af1, (formPart form).af1v) form.byte) := by
    rw [← specResolve_formByte]
    exact gearStage_eq form op s
  exact ⟨fun a => row (.short a), fun x g => row (.group x g), row .bcUnaddr, row .bc⟩

theorem step_gearForm (form : AddrForm) (op : Byte) (s : State) :
    step (s.presenting (word16 form.byte op)) = .next (afterAccepted { s with input := [] }
      (frame16Record (specResolve form.byte) form.byte op (specGearCmd s.cfg.img op))) := by
  rw [step_eq_specFrame (s := s.presenting (word16 form.byte op)) rfl (opSel_frameWord _ _), word16, opLen_frameWord,
    opValue_frameWord, specFrame_word16, specResolve_formByte, command16_formPart]
  rfl

theorem step_controlForm (form : AddrForm) (ib op : Byte) (s : State) :
    step (s.presenting (word24 form.byte ib op)) = .next (afterAccepted { s with input := [] }
      (frame24Record (specResolve form.byte) form.byte ib op (specCtrlCmd s.cfg.img op) s.ctx)) := by
  rw [step_eq_specFrame (s := s.presenting (word24 form.byte ib op)) rfl (opSel_frameWord _ _), word24, opLen_frameWord,
    opValue_frameWord, specFrame_word24 _ (formByte_odd form), specResolve_formByte, command24_formPart]
  rfl

/-- Settles O43: the record's address is the resolver's of the address byte, its command the stage's of the opcode byte. -/
theorem addressAndCommandAreIndependent : Obligations.AddressAndCommandAreIndependent := by
  unfold Obligations.AddressAndCommandAreIndependent
  intro f f' op op' ib ib' s
  refine ⟨?gearAddress, ?gearCommand, ?controlAddress, ?controlCommand⟩
  case gearAddress => exact ⟨_, _, step_gearForm f op s, step_gearForm f op' s, rfl, rfl, rfl⟩
  case gearCommand => exact ⟨_, _, step_gearForm f op s, step_gearForm f' op s, rfl, rfl⟩
  case controlAddress => exact ⟨_, _, step_controlForm f ib op s, step_controlForm f ib' op' s, rfl, rfl, rfl⟩
  case controlCommand => exact ⟨_, _, step_controlForm f ib op s, step_controlForm f' ib' op s, rfl, rfl⟩

end Sys2Proof.Proofs
end

section
/-! PROOF. The address resolver (R110). The addressed forms resolve to their own kind and field; the address bytes of each
kind, and the opcode bytes of each INITIALISE sub-case, are listed as the map of R120 and the partition of R171 have them,
and the census is the lengths of the lists. -/

namespace Sys2Proof.Proofs

open Sys2Proof.Machine

/-! ### The addressed forms (R112 to R115) -/

/-- Settles O11: the address part of each form is the resolver's answer. -/
theorem addressedFormsResolve : Obligations.AddressedFormsResolve := by
  unfold Obligations.AddressedFormsResolve
  exact ⟨fun a => specResolve_formByte (.short a), fun x g => specResolve_formByte (.group x g),
    specResolve_formByte .bcUnaddr, specResolve_formByte .bc⟩

/-! ### The map of the address byte (R120) -/

/-- The address bytes of a 16-bit frame by kind, in increasing order: the short and group bytes are the odd ones of their
ranges, the special and reserved bytes whole ranges, and what is left is even. `List.range'` takes the first byte, the
count of R120 and the step. -/
def addressBytes : AddrKind → List Nat
  | .short => List.range' 0x01 64 2
  | .group => List.range' 0x81 32 2
  | .bcUnaddr => [0xFD]
  | .bc => [0xFF]
  | .special => List.range' 0xC1 31
  | .reserved => List.range' 0xE1 15 ++ List.range' 0xF1 11
  | .unmatched => List.range' 0x00 96 2 ++ [0xC0, 0xE0, 0xF0, 0xFC, 0xFE]
  | _ => []

/-- The resolver sorts the 256 address bytes as the map lists them. -/
theorem filter_specResolve_eq_addressBytes (k : AddrKind) :
    (List.range 256).filter (fun a => (specResolve (BitVec.ofNat 8 a)).1 == k) = addressBytes k := by
  cases k <;> decide

/-! ### The partition of the INITIALISE opcodes (R171) -/

/-- The opcode bytes of an INITIALISE sub-case, in increasing order: one device is an odd byte below 0x80, and no device
answers the even bytes below 0x80 other than 0x00 and the bytes from 0x80 to 0xFE. -/
def initSubBytes : InitSub → List Nat
  | .unaddressed => [0xFF]
  | .all => [0x00]
  | .one => List.range' 0x01 64 2
  | .noneResponds => List.range' 0x02 63 2 ++ List.range' 0x80 127

/-- `INITSUB` sorts the 256 opcode bytes as the partition lists them. -/
theorem filter_specInitSub_eq_initSubBytes (i : InitSub) :
    (List.range 256).filter (fun a => specInitSub (BitVec.ofNat 8 a) == i) = initSubBytes i := by
  cases i with
  | unaddressed | all | one => decide
  | noneResponds =>
    have halves : List.range 256 = List.range' 0x00 128 ++ List.range' 0x80 128 := by
      rw [List.range_eq_range', List.range'_append_1]
    have below : (List.range' 0x00 128).filter (fun a => specInitSub (BitVec.ofNat 8 a) == .noneResponds) =
        List.range' 0x02 63 2 := by decide
    have above : (List.range' 0x80 128).filter (fun a => specInitSub (BitVec.ofNat 8 a) == .noneResponds) =
        List.range' 0x80 127 := by decide
    rw [halves, List.filter_append, below, above, initSubBytes]

/-! ### The census -/

/-- Settles O46: each count is the length of a list of the map. -/
theorem addressByteCensus : Obligations.AddressByteCensus := by
  unfold Obligations.AddressByteCensus
  simp only [filter_specResolve_eq_addressBytes, filter_specInitSub_eq_initSubBytes]
  simp [addressBytes, initSubBytes]

end Sys2Proof.Proofs
end

section
/-! PROOF. What the seven event rows leave in the result bank (R132, R134 to R140). A row builds its three echoed bytes out
of the event value (R68) or the power-cycle value (R69) of its fields; each byte is a field range of that value, so it is
the concatenation of the fields that lie in it. -/

namespace Sys2Proof.Proofs

open Sys2Proof.Machine Sys2Proof.Laws

/-! ### The bytes of an event value (R68) -/

section
variable (s23 s22 : BitVec 1) (f1 : BitVec 5) (s15 : BitVec 1) (f2 : BitVec 5) (ev : BitVec 10)

theorem byteHi_eventValue : byteHi (eventValue s23 s22 f1 s15 f2 ev) = s23 ++ s22 ++ f1 ++ 0#1 :=
  (extract_append_high (s23 ++ s22 ++ f1 ++ 0#1 ++ s15 ++ f2) ev 16 8 (by decide)).trans
    ((extract_append_high (s23 ++ s22 ++ f1 ++ 0#1 ++ s15) f2 6 8 (by decide)).trans
      ((extract_append_high (s23 ++ s22 ++ f1 ++ 0#1) s15 1 8 (by decide)).trans (extract_all _)))

theorem byteMid_eventValue :
    byteMid (eventValue s23 s22 f1 s15 f2 ev) = s15 ++ f2 ++ ev.extractLsb' 8 2 := by
  have hs15 := eventValue_s15 s23 s22 f1 s15 f2 ev
  have hf2 := eventValue_f2 s23 s22 f1 s15 f2 ev
  have hev := eventValue_ev s23 s22 f1 s15 f2 ev
  generalize eventValue s23 s22 f1 s15 f2 ev = v at *
  have hfields : v.extractLsb' 15 1 ++ v.extractLsb' 10 5 = v.extractLsb' 10 6 := extract_append_extract v 10 1 5
  have hbyte : v.extractLsb' 10 6 ++ v.extractLsb' 8 2 = byteMid v := extract_append_extract v 8 6 2
  rw [← hbyte, ← hfields, hs15, hf2, ← hev, extract_extract v 0 10 8 2 (by decide)]

theorem byteLo_eventValue : byteLo (eventValue s23 s22 f1 s15 f2 ev) = ev.extractLsb' 0 8 :=
  extract_append_low (s23 ++ s22 ++ f1 ++ 0#1 ++ s15 ++ f2) ev 0 8 (by decide)

end

/-! ### The bytes of a power-cycle value (R69) -/

section
variable (gv : BitVec 1) (g : BitVec 5) (av : BitVec 1) (a : BitVec 6)

theorem byteHi_powerCycleValue : byteHi (powerCycleValue gv g av a) = 0xFE#8 := by
  have hbyte := extract_extract (powerCycleValue gv g av a) 13 11 3 8 (by decide)
  rw [powerCycleValue_pattern] at hbyte
  exact hbyte.symm.trans (by decide)

theorem byteMid_powerCycleValue :
    byteMid (powerCycleValue gv g av a) = 7#3 ++ gv ++ g.extractLsb' 1 4 := by
  have hpattern := powerCycleValue_pattern gv g av a
  have hgv := powerCycleValue_gv gv g av a
  have hg := powerCycleValue_g gv g av a
  generalize powerCycleValue gv g av a = v at *
  have hlow : (0x7F7#11).extractLsb' 0 3 = 7#3 := by decide
  have hfields : v.extractLsb' 13 3 ++ v.extractLsb' 12 1 = v.extractLsb' 12 4 := extract_append_extract v 12 3 1
  have hbyte : v.extractLsb' 12 4 ++ v.extractLsb' 8 4 = byteMid v := extract_append_extract v 8 4 4
  rw [← hbyte, ← hfields, hgv, ← hlow, ← hpattern, ← hg, extract_extract v 13 11 0 3 (by decide),
    extract_extract v 7 5 1 4 (by decide)]

theorem byteLo_powerCycleValue :
    byteLo (powerCycleValue gv g av a) = g.extractLsb' 0 1 ++ av ++ a := by
  have hg := powerCycleValue_g gv g av a
  have hav := powerCycleValue_av gv g av a
  have ha := powerCycleValue_a gv g av a
  generalize powerCycleValue gv g av a = v at *
  have hfields : v.extractLsb' 7 1 ++ v.extractLsb' 6 1 = v.extractLsb' 6 2 := extract_append_extract v 6 1 1
  have hbyte : v.extractLsb' 6 2 ++ v.extractLsb' 0 6 = byteLo v := extract_append_extract v 0 2 6
  rw [← hbyte, ← hfields, hav, ha, ← hg, extract_extract v 7 5 0 1 (by decide)]

end

/-! ### The records of the rows -/

theorem eventValueRecord_eq (adr : AddrPart) (c : CmdKind) (v : Value) (ctx : Byte) :
    eventValueRecord adr c v ctx =
      eventRecord adr.akind c adr.af1 adr.af1v adr.af2 adr.af2v (byteHi v) (byteMid v) (byteLo v) ctx := rfl

/-- The effect of a row whose word is an event value (R134 to R139). -/
theorem acceptEvent_eventValue (adr : AddrPart) (c : CmdKind) (s23 s22 : BitVec 1) (f1 : BitVec 5) (s15 : BitVec 1)
    (f2 : BitVec 5) (ev : BitVec 10) (s : State) :
    acceptEvent adr c (eventValue s23 s22 f1 s15 f2 ev) s = afterAccepted s
      (eventRecord adr.akind c adr.af1 adr.af1v adr.af2 adr.af2v (s23 ++ s22 ++ f1 ++ 0#1)
        (s15 ++ f2 ++ ev.extractLsb' 8 2) (ev.extractLsb' 0 8) s.ctx) := by
  rw [acceptEvent_eq, eventValueRecord_eq, byteHi_eventValue, byteMid_eventValue, byteLo_eventValue]

/-- The effect of the row whose word is a power-cycle value (R132). -/
theorem acceptEvent_powerCycleValue (adr : AddrPart) (c : CmdKind) (gv : BitVec 1) (g : BitVec 5) (av : BitVec 1)
    (a : BitVec 6) (s : State) :
    acceptEvent adr c (powerCycleValue gv g av a) s = afterAccepted s
      (eventRecord adr.akind c adr.af1 adr.af1v adr.af2 adr.af2v 0xFE#8 (7#3 ++ gv ++ g.extractLsb' 1 4)
        (g.extractLsb' 0 1 ++ av ++ a) s.ctx) := by
  rw [acceptEvent_eq, eventValueRecord_eq, byteHi_powerCycleValue, byteMid_powerCycleValue, byteLo_powerCycleValue]

/-- Settles O16: each of the five rows is an event with both fields, at its own selector bits. -/
theorem eventFramesCarryTwoFields : Obligations.EventFramesCarryTwoFields := by
  unfold Obligations.EventFramesCarryTwoFields
  intro s22 f1 f2 ev s after
  have row (k : AddrKind) (s23 s22 s15 : BitVec 1) :
      acceptEvent (eventPart k f1 f2) .event (eventValue s23 s22 f1 s15 f2 ev) s = after k s23 s22 s15 :=
    acceptEvent_eventValue (eventPart k f1 f2) .event s23 s22 f1 s15 f2 ev s
  refine ⟨?device, ?deviceInstance, ?deviceGroup, ?inst, ?instGroup⟩
  case device => exact congrArg _ (row .evDevice 0#1 s22 0#1)
  case deviceInstance => exact congrArg _ (row .evDeviceInstance 0#1 s22 1#1)
  case deviceGroup => exact congrArg _ (row .evDeviceGroup 1#1 0#1 0#1)
  case inst => exact congrArg _ (row .evInstance 1#1 0#1 1#1)
  case instGroup => exact congrArg _ (row .evInstanceGroup 1#1 1#1 0#1)

/-- The well-formed operands of `E24.RESERVED` spell no power-cycle value (R132, R139). -/
theorem reservedValue_not_powerCycle {f1 f2 : BitVec 5} {ev : BitVec 10}
    (hwf : (Instr.e24Reserved f1 f2 ev).wellFormed = true) :
    (eventValue 1#1 1#1 f1 1#1 f2 ev).extractLsb' 13 11 ≠ 0x7F7#11 := by
  have hfields : ¬ (f1 = 31#5 ∧ f2.extractLsb' 3 2 = 3#2) := by simpa [Instr.wellFormed, ← not_and_or] using hwf
  rw [Ne, eventValue_isPowerCycle_iff]
  exact fun ⟨_, _, hf1, _, hf2⟩ => hfields ⟨hf1, hf2⟩

theorem ushiftRight_eq_pattern_iff (v : Value) : v >>> 13 = 0x7F7#24 ↔ v.extractLsb' 13 11 = 0x7F7#11 := by
  rw [← specPattern_iff, BitVec.toNat_eq, BitVec.toNat_ushiftRight, Nat.shiftRight_eq_div_pow]
  rfl

/-- Settles O17: the row's effect, and that its word is off the power-cycle pattern. -/
theorem reservedEventHasNoFields : Obligations.ReservedEventHasNoFields := by
  unfold Obligations.ReservedEventHasNoFields
  intro f1 f2 ev s hwf
  refine ⟨congrArg _ (acceptEvent_eventValue (.bare .evReserved) .eventReserved 1#1 1#1 f1 1#1 f2 ev s), ?offPattern⟩
  case offPattern =>
    rw [encode, opValue_frameWord, Ne, ushiftRight_eq_pattern_iff]
    exact reservedValue_not_powerCycle hwf

/-- Settles O18: the address part of the row is the statement's, the bytes are those of the power-cycle value. -/
theorem powerCycleReportsPresentFields : Obligations.PowerCycleReportsPresentFields := by
  unfold Obligations.PowerCycleReportsPresentFields
  intro gv g av a s
  exact congrArg _ (acceptEvent_powerCycleValue (powerCyclePart gv g av a) .powerCycle gv g av a s)

end Sys2Proof.Proofs
end

section
/-! PROOF. The event round trip (R141). Off the power-cycle pattern the record, the label (R217, R218) and the text (R236,
R237) of an event value are functions of its category and its fields alone; on the pattern the value is a power-cycle value
(R238). -/

namespace Sys2Proof.Proofs

open Sys2Proof.Machine Sys2Proof.Laws

/-! ### The text of a 24-bit result (R210, R211) -/

theorem text_afterAccepted24 {s : State} {dc : Decoded} {txt : Text} (hlc : dc.lc = .w24)
    (htext : cmdText dc s.cfg.img = some txt) :
    (afterAccepted s dc).text = some (padded s.cfg.labelW24 (label dc), txt) := by
  simp [State.text, afterAccepted, text, hlc, htext, labelWidth, padded, pad]

/-! ### Label and text by category -/

/-- The label of an event with the prefixes of its two fields (R217). -/
def fieldLabel (f1 f2 : BitVec 5) (p1 p2 : String) : Text :=
  p1.toList ++ twoDigits f1.toNat ++ ",".toList ++ p2.toList ++ twoDigits f2.toNat

/-- The label of an event by its category; the reserved event has none (R217, R218). -/
def categoryLabel (f1 f2 : BitVec 5) : EventCategory → Text
  | .reserved => []
  | .device => fieldLabel f1 f2 "A" "T"
  | .deviceInstance => fieldLabel f1 f2 "A" "I"
  | .deviceGroup => fieldLabel f1 f2 "G" "T"
  | .inst => fieldLabel f1 f2 "T" "I"
  | .instGroup => fieldLabel f1 f2 "IG" "T"

/-- The payload of an event three ways (R236). -/
def threeWayText (ev : BitVec 10) : Text :=
  "EVENT 0x".toList ++ hexUpper 3 ev.toNat ++ " = ".toList ++ dec ev.toNat ++ " = ".toList ++
    binary 12 ev.toNat ++ "b".toList

/-- The text of an event by its category (R236, R237). -/
def categoryText (ev : BitVec 10) : EventCategory → Text
  | .reserved => "RESERVED EVENT".toList
  | _ => threeWayText ev

theorem eventField_toNat (f : BitVec 5) : (f.setWidth 6).toNat = f.toNat :=
  BitVec.toNat_setWidth_of_le (by decide)

theorem dec2_eventField (f : BitVec 5) : dec2 (f.setWidth 6).toNat = twoDigits f.toNat := by
  rw [eventField_toNat, dec2_eq_twoDigits (by omega)]

theorem label_categoryPart (f1 f2 : BitVec 5) (cat : EventCategory) (c : CmdKind) (v : Value) (ctx : Byte) :
    label (eventValueRecord (categoryPart f1 f2 cat) c v ctx) = categoryLabel f1 f2 cat := by
  have fields (k : AddrKind) (p1 p2 : String) :
      eventLabel p1 p2 (eventValueRecord (eventPart k f1 f2) c v ctx) = fieldLabel f1 f2 p1 p2 := by
    rw [fieldLabel, ← dec2_eventField f1, ← dec2_eventField f2]
    rfl
  cases cat with
  | reserved => rfl
  | device => exact fields _ "A" "T"
  | deviceInstance => exact fields _ "A" "I"
  | deviceGroup => exact fields _ "G" "T"
  | inst => exact fields _ "T" "I"
  | instGroup => exact fields _ "IG" "T"

section
variable (s23 s22 : BitVec 1) (f1 : BitVec 5) (s15 : BitVec 1) (f2 : BitVec 5) (ev : BitVec 10)

/-- The payload of an event stands in the echoes (R140). -/
theorem payload_eventValueRecord (adr : AddrPart) (c : CmdKind) (ctx : Byte) :
    (eventValueRecord adr c (eventValue s23 s22 f1 s15 f2 ev) ctx).payload = ev.toNat := by
  have hhigh : (byteMid (eventValue s23 s22 f1 s15 f2 ev)).extractLsb' 0 2 = ev.extractLsb' 8 2 := by
    rw [byteMid_eventValue, extract_append_low (s15 ++ f2) (ev.extractLsb' 8 2) 0 2 (by decide), extract_all]
  have hpayload : ev.extractLsb' 8 2 ++ ev.extractLsb' 0 8 = ev := append_extract (m := 2) (n := 8) ev
  rw [← hhigh, ← byteLo_eventValue s23 s22 f1 s15 f2 ev] at hpayload
  exact congrArg BitVec.toNat hpayload

theorem eventText_eventValueRecord (adr : AddrPart) (c : CmdKind) (ctx : Byte) :
    eventText (eventValueRecord adr c (eventValue s23 s22 f1 s15 f2 ev) ctx) = threeWayText ev := by
  unfold eventText threeWayText
  rw [payload_eventValueRecord]

theorem cmdText_categoryRecord (cat : EventCategory) (ctx : Byte) (m : Memory) :
    cmdText (eventValueRecord (categoryPart f1 f2 cat) (categoryKind cat) (eventValue s23 s22 f1 s15 f2 ev) ctx) m =
      some (categoryText ev cat) := by
  cases cat with
  | reserved => rfl
  | _ => exact congrArg some (eventText_eventValueRecord s23 s22 f1 s15 f2 ev _ _ _)

theorem text_categoryRecord (s : State) (cat : EventCategory) (ctx : Byte) :
    (afterAccepted s (eventValueRecord (categoryPart f1 f2 cat) (categoryKind cat)
        (eventValue s23 s22 f1 s15 f2 ev) ctx)).text =
      some (padded s.cfg.labelW24 (categoryLabel f1 f2 cat), categoryText ev cat) := by
  rw [text_afterAccepted24 rfl (cmdText_categoryRecord s23 s22 f1 s15 f2 ev cat ctx _), label_categoryPart]

/-! ### The category by the selector bits (R133) -/

theorem specEvcat_eq_reserved_iff :
    specEvcat (eventValue s23 s22 f1 s15 f2 ev) = .reserved ↔ s23 = 1#1 ∧ s22 = 1#1 ∧ s15 = 1#1 := by
  rw [specEvcat_eventValue]
  split_ifs with h23 h22 h15
  · simp [h23, h22, h15]
  all_goals simp [*]

/-- What depends on the category alone follows the tree over the selector bits. Outside the reserved category bit 15 is not
read where bits 23 and 22 are 1, nor bit 22 where bit 23 is 0. -/
theorem apply_specEvcat {α : Type} (F : EventCategory → α) (h : ¬ (s23 = 1#1 ∧ s22 = 1#1 ∧ s15 = 1#1)) :
    F (specEvcat (eventValue s23 s22 f1 s15 f2 ev)) =
      if s23 = 1#1 then
        if s22 = 1#1 then F .instGroup else if s15 = 1#1 then F .inst else F .deviceGroup
      else if s15 = 1#1 then F .deviceInstance else F .device := by
  rw [specEvcat_eventValue]
  split_ifs with h23 h22 h15
  · exact absurd ⟨h23, h22, h15⟩ h
  all_goals rfl

/-! ### The step on an event word -/

theorem step_event (s : State) :
    step (s.presenting (assemble (asmEvent s23 s22 f1 s15 f2 ev))) =
      .next (afterAccepted { s with input := [] } (specEvent (eventValue s23 s22 f1 s15 f2 ev) s.ctx)) := by
  rw [assemble_event, step_eq_specFrame (s := s.presenting _) rfl (opSel_frameWord _ _), opLen_frameWord,
    opValue_frameWord, specFrame_event _ (eventValue_selector s23 s22 f1 s15 f2 ev)]
  rfl

end

/-- On the pattern the pseudocode reads the fields of the power-cycle value (R132). -/
theorem specEvent_of_pattern {v : Value} (h : v.extractLsb' 13 11 = 0x7F7#11) (ctx : Byte) :
    specEvent v ctx = eventValueRecord
      (powerCyclePart (v.extractLsb' 12 1) (v.extractLsb' 7 5) (v.extractLsb' 6 1) (v.extractLsb' 0 6))
      .powerCycle v ctx := by
  simpa only [powerCycleValue_eta h] using
    specEvent_powerCycle (v.extractLsb' 12 1) (v.extractLsb' 7 5) (v.extractLsb' 6 1) (v.extractLsb' 0 6) ctx

/-- Every category but the reserved one reports both fields and its payload (R134 to R138, R236). -/
theorem category_of_ne_reserved {cat : EventCategory} (h : cat ≠ .reserved) (f1 f2 : BitVec 5) (ev : BitVec 10) :
    categoryPart f1 f2 cat = eventPart cat.akind f1 f2 ∧ categoryKind cat = .event ∧
      categoryText ev cat = threeWayText ev := by
  cases cat with
  | reserved => exact absurd rfl h
  | _ => exact ⟨rfl, rfl, rfl⟩

/-- Settles O34: the power-cycle pattern, the reserved category and the five categories with fields. -/
theorem eventRoundTrip : Obligations.EventRoundTrip := by
  unfold Obligations.EventRoundTrip
  intro s23 s22 f1 s15 f2 ev s
  have hstep := step_event s23 s22 f1 s15 f2 ev s
  have hpattern := eventValue_isPowerCycle_iff s23 s22 f1 s15 f2 ev
  by_cases hpower : s23 = 1#1 ∧ s22 = 1#1 ∧ s15 = 1#1 ∧ f1 = 31#5 ∧ f2.extractLsb' 3 2 = 3#2
  · rw [specEvent_of_pattern (hpattern.mpr (by tauto))] at hstep
    refine ⟨_, _, _, hstep, text_afterAccepted24 rfl rfl, ?_⟩
    intro fields
    rw [if_pos hpower]
    exact ⟨rfl, rfl⟩
  have hrecord := specEvent_eventValue s23 s22 f1 s15 f2 ev rfl (by tauto) s.ctx
  rw [hrecord] at hstep
  refine ⟨_, _, _, hstep, text_categoryRecord s23 s22 f1 s15 f2 ev _ _ _, ?_⟩
  intro fields
  rw [if_neg hpower]
  by_cases hreserved : s23 = 1#1 ∧ s22 = 1#1 ∧ s15 = 1#1
  · rw [if_pos hreserved, (specEvcat_eq_reserved_iff s23 s22 f1 s15 f2 ev).mpr hreserved]
    exact ⟨rfl, rfl, rfl, rfl, rfl, rfl⟩
  · have hcat := mt (specEvcat_eq_reserved_iff s23 s22 f1 s15 f2 ev).mp hreserved
    obtain ⟨hpart, hkind, htext⟩ := category_of_ne_reserved hcat f1 f2 ev
    have hakind := apply_specEvcat s23 s22 f1 s15 f2 ev EventCategory.akind hreserved
    have hlabel := apply_specEvcat s23 s22 f1 s15 f2 ev
      (fun cat => padded s.cfg.labelW24 (categoryLabel f1 f2 cat)) hreserved
    rw [if_neg hreserved, hpart, hkind, htext]
    exact ⟨hakind, rfl, eventField_toNat f1, rfl, eventField_toNat f2, rfl,
      payload_eventValueRecord s23 s22 f1 s15 f2 ev _ _ _, hlabel, rfl⟩

end Sys2Proof.Proofs
end

section
/-! PROOF. What the 16-bit rows leave in the result bank, row by row: the counted families (R153 to R159), the gear table
(R160, R161) and the address bytes that reach no table (R162 to R164). -/

namespace Sys2Proof.Proofs

open Sys2Proof.Machine Sys2Proof.Laws

/-! ### The opcode byte of a family member (R153) -/

/-- The low nibble of a base is 0, so adding the counter carries nothing. -/
theorem familyMember_eq_or : ∀ b ∈ familyBases, ∀ k : BitVec 4, b + k.setWidth 8 = b ||| k.setWidth 8 := by
  decide

theorem familyMember_base : ∀ b ∈ familyBases, ∀ k : BitVec 4, (b + k.setWidth 8) &&& 0xF0#8 = b := by
  decide

theorem familyMember_counter : ∀ b ∈ familyBases, ∀ k : BitVec 4, (b ||| k.setWidth 8).extractLsb' 0 4 = k := by
  decide

theorem specGearCmd_familyMember {b : Byte} (hb : b ∈ familyBases) (k : BitVec 4) (img : Image) :
    specGearCmd img (b + k.setWidth 8) = (.gearCounted, b) := by
  have hbase := familyMember_base b hb k
  rw [specGearCmd_family ((isFamily_iff _).mpr (hbase.symm ▸ hb)), hbase]

/-! ### The rows of stage `G16` -/

/-- The effect of a family row, from its base (R153). -/
theorem counted16_eq {b : Byte} (hb : b ∈ familyBases) (form : AddrForm) (k : BitVec 4) (s : State) :
    counted16 b form k s =
      afterAccepted s (frame16Record (specResolve form.byte) form.byte (b ||| k.setWidth 8) (.gearCounted, b)) := by
  rw [counted16, familyMember_eq_or b hb, accept16_formPart]

/-- Settles O12: the six rows are one row at six bases. -/
theorem countedFamiliesNameTheirBase : Obligations.CountedFamiliesNameTheirBase := by
  unfold Obligations.CountedFamiliesNameTheirBase
  intro form k s after
  have row (b : Byte) (hb : b ∈ familyBases) :
      (.next (counted16 b form k s) : Host.Outcome State Fault Refusal) = .next (after b) :=
    congrArg _ (counted16_eq hb form k s)
  refine ⟨?gotoScene, ?setScene, ?removeScene, ?addGroup, ?removeGroup, ?querySceneLevel, ?counter⟩
  case gotoScene => exact row 0x10#8 (by decide)
  case setScene => exact row 0x40#8 (by decide)
  case removeScene => exact row 0x50#8 (by decide)
  case addGroup => exact row 0x60#8 (by decide)
  case removeGroup => exact row 0x70#8 (by decide)
  case querySceneLevel => exact row 0xB0#8 (by decide)
  case counter => exact fun b hb => familyMember_counter b hb k

/-- Settles O13: the table row names a hit and answers a miss with the placeholder kind. -/
theorem gearTableHitOrMiss : Obligations.GearTableHitOrMiss := by
  unfold Obligations.GearTableHitOrMiss
  intro form op s _
  have hcases := execG16Lut_cases form op s
  refine ⟨fun hhit => ?hit, fun hmiss => ?miss⟩
  case hit =>
    obtain ⟨_, _, hexec⟩ := hcases.resolve_right fun ⟨hmiss, _⟩ => Option.isSome_iff_ne_none.mp hhit hmiss
    rw [← accept16_formPart]
    exact hexec
  case miss =>
    obtain ⟨_, hexec⟩ := hcases.resolve_left (by simp [hmiss])
    rw [← accept16_formPart]
    exact hexec

/-! ### The rows that reach no table -/

/-- Settles O15: on the operands of each row the resolver answers the row's address kind, without fields. -/
theorem unaddressedGearFrames : Obligations.UnaddressedGearFrames := by
  unfold Obligations.UnaddressedGearFrames
  intro op s after
  have row {k : AddrKind} {ab : Byte} (c : CmdKind) (h : specResolve ab = (k, 0#6, false)) :
      (.next (unaddressed16 k c ab op s) : Host.Outcome State Fault Refusal) = .next (after ab c) :=
    congrArg _ (accept16_bare s h c op)
  refine ⟨?special, ?reservedE, ?reservedF1, ?reservedF8, ?unmatchedC0, ?unmatchedE0, ?unmatchedF0, ?unmatched⟩
  case special => exact fun n hn => row .spc16Unknown (specResolve_special16 n hn)
  case reservedE => exact fun n hn => row .reserved (specResolve_reservedE n hn)
  case reservedF1 => exact fun n hn => row .reserved (specResolve_reservedF1 n hn)
  case reservedF8 => exact fun n => row .reserved (specResolve_reservedF8 n)
  case unmatchedC0 => exact row (k := .unmatched) (ab := 0xC0#8) .unmatched (by decide)
  case unmatchedE0 => exact row (k := .unmatched) (ab := 0xE0#8) .unmatched (by decide)
  case unmatchedF0 => exact row (k := .unmatched) (ab := 0xF0#8) .unmatched (by decide)
  case unmatched => exact fun ab hab => row .unmatched (specResolve_unmatched ab hab)

end Sys2Proof.Proofs
end

section
/-! PROOF. The text of an addressed frame depends on its command alone: a counted family renders as the name of its base and
its counter (R222), an opcode byte absent from its table as the table's placeholder (R223, R225). -/

namespace Sys2Proof.Proofs

open Sys2Proof.Machine Sys2Proof.Laws

/-! ### The text of a 16-bit result (R210, R211) -/

theorem text_afterAccepted16 {s : State} {dc : Decoded} {txt : Text} (hlc : dc.lc = .w16)
    (htext : cmdText dc s.cfg.img = some txt) :
    (afterAccepted s dc).text = some (padded s.cfg.labelW16 (label dc), txt) := by
  simp [State.text, afterAccepted, text, hlc, htext, labelWidth, padded, pad]

/-- An addressed 16-bit frame has the text of its command (R152). -/
theorem gearForm_shows {form : AddrForm} {op : Byte} {s : State} {cmd : CmdKind × Byte} {txt : Text}
    (hcmd : specGearCmd s.cfg.img op = cmd)
    (htext : cmdText (frame16Record (specResolve form.byte) form.byte op cmd) s.cfg.img = some txt) :
    ∃ t lbl, step (s.presenting (word16 form.byte op)) = .next t ∧ t.text = some (lbl, txt) := by
  subst hcmd
  exact ⟨_, _, step_gearForm form op s, text_afterAccepted16 rfl htext⟩

/-- An addressed 24-bit frame has the text of its command (R200). -/
theorem controlForm_shows {form : AddrForm} {ib op : Byte} {s : State} {cmd : CmdPart} {txt : Text}
    (hcmd : specCtrlCmd s.cfg.img op = cmd)
    (htext : cmdText (frame24Record (specResolve form.byte) form.byte ib op cmd s.ctx) s.cfg.img = some txt) :
    ∃ t lbl, step (s.presenting (word24 form.byte ib op)) = .next t ∧ t.text = some (lbl, txt) := by
  subst hcmd
  exact ⟨_, _, step_controlForm form ib op s, text_afterAccepted24 rfl htext⟩

/-! ### Counted families -/

/-- The text of a family record: the base's name, and the counter read from the echo (R71, R222). -/
theorem cmdText_counted {img : Image} {b : Byte} {k : BitVec 4} {n : Text} (hb : b ∈ familyBases)
    (hname : nameAt img .gear b = some n) (adr : AddrKind × BitVec 6 × Bool) (ab : Byte) :
    cmdText (frame16Record adr ab (b + k.setWidth 8) (.gearCounted, b)) img =
      some (n ++ " ".toList ++ dec k.toNat) := by
  have hcounter : (frame16Record adr ab (b + k.setWidth 8) (.gearCounted, b)).counter = k.toNat := by
    rw [familyMember_eq_or b hb]
    exact congrArg BitVec.toNat (familyMember_counter b hb k)
  rw [← hcounter]
  exact congrArg (Option.map _) hname

/-- Settles O52: the command of a family member is its base, whose name and counter make the text. -/
theorem countedFamilyText : Obligations.CountedFamilyText := by
  unfold Obligations.CountedFamilyText
  intro form b k n s hb hname
  exact gearForm_shows (specGearCmd_familyMember hb k _) (cmdText_counted hb hname _ _)

/-! ### Opcode bytes absent from a table -/

/-- The placeholder of a byte with its tail (R220), the separating space counted to the tail. -/
theorem placeholder_eq_code (b : Byte) (tail : String) :
    placeholder b tail = "--- CODE 0x".toList ++ hexUpper 2 b.toNat ++ " = ".toList ++ dec b.toNat ++
      (" ".toList ++ tail.toList) := by
  have hcode : "--- CODE 0x".toList = "--- CODE ".toList ++ "0x".toList := by simp
  rw [hcode]
  unfold placeholder hexByte
  simp only [List.append_assoc]

theorem specGearCmd_miss {img : Image} {op : Byte} (hop : isFamily op = false) (hmiss : memRead img .gear op = none) :
    specGearCmd img op = (.gearUndef, 0#8) := by
  rw [specGearCmd_table hop, hmiss]
  rfl

theorem specCtrlCmd_miss {img : Image} {op : Byte} (hmiss : memRead img .ctrl op = none) :
    specCtrlCmd img op = CmdPart.bare .ctrlUndef := by
  rw [specCtrlCmd, hmiss]
  rfl

/-- Settles O54: a miss is the table's placeholder kind, whose text reads the echoed opcode byte alone. -/
theorem undefinedOpcodeText : Obligations.UndefinedOpcodeText := by
  unfold Obligations.UndefinedOpcodeText
  intro form ib op s code
  refine ⟨?gear, ?control⟩
  case gear =>
    exact fun hop hmiss => gearForm_shows (specGearCmd_miss hop hmiss) (congrArg some (placeholder_eq_code op _))
  case control =>
    exact fun hmiss => controlForm_shows (specCtrlCmd_miss hmiss) (congrArg some (placeholder_eq_code op _))

end Sys2Proof.Proofs
end

section
/-! PROOF. What the special rows leave in the result bank (R170 to R181). Every row accepts the frame under the address kind
of the special commands, without fields, so each statement comes down to the row's bytes and its command part. -/

namespace Sys2Proof.Proofs

open Sys2Proof.Machine Sys2Proof.Laws

/-! ### The record of a special command (R98, R170) -/

theorem acceptSpecial_eq (cmd : CmdPart) (ab ib op : Byte) (s : State) :
    acceptSpecial cmd ab ib op s =
      afterAccepted s (frame24Record (.special, 0#6, false) ab ib op cmd s.ctx) := rfl

/-- On an address byte of the special range the record is the one the spec builds from the resolver (R116). -/
theorem acceptSpecial_eq_resolved {ab : Byte} (h : specResolve ab = (.special, 0#6, false)) (cmd : CmdPart)
    (ib op : Byte) (s : State) :
    acceptSpecial cmd ab ib op s = afterAccepted s (frame24Record (specResolve ab) ab ib op cmd s.ctx) :=
  accept24_bare s h cmd ib op

/-- The unassigned bytes of the special range (R181) resolve to it. -/
theorem specResolve_s24Unknown {n : BitVec 4} {ib op : Byte} (hwf : (Instr.s24Unknown n ib op).wellFormed = true) :
    specResolve (6#3 ++ n ++ 1#1) = (.special, 0#6, false) :=
  specResolve_special24 n (by rintro rfl; cases hwf)

/-! ### INITIALISE (R171 to R175) -/

/-- Settles O21: the four rows are one record at four sub-cases, and the last two agree with `INITSUB`. -/
theorem initialiseSubCases : Obligations.InitialiseSubCases := by
  unfold Obligations.InitialiseSubCases
  intro s after
  have row (sub : InitSub) (op : Byte) :
      (.next (initialise sub op s) : Host.Outcome State Fault Refusal) = .next (after op sub) :=
    congrArg _ (acceptSpecial_eq ⟨.spcInitialise, 0#8, .plain, sub⟩ 0xC1#8 0x01#8 op s)
  refine ⟨?unaddressed, ?all, fun k => ?one, fun op hwf => ?noneResponds⟩
  case unaddressed => exact row .unaddressed 0xFF#8
  case all => exact row .all 0x00#8
  case one => exact ⟨row .one (0#1 ++ k ++ 1#1), specInitSub_one k⟩
  case noneResponds => exact ⟨row .noneResponds op, specInitSub_none op hwf⟩

/-! ### The sub-command table (R176, R177) -/

/-- Settles O22: the row's two outcomes are told apart by the table read. -/
theorem subCommandTableHitOrMiss : Obligations.SubCommandTableHitOrMiss := by
  unfold Obligations.SubCommandTableHitOrMiss
  intro ib op s _
  have hcases := execS24C1Lut_cases ib op s
  refine ⟨fun e hhit => ?hit, fun hmiss => ?miss⟩
  case hit =>
    obtain ⟨e', hread, hexec⟩ := hcases.resolve_right (by simp [hhit])
    obtain rfl : e = e' := Option.some.inj (hhit.symm.trans hread)
    rw [← acceptSpecial_eq]
    exact hexec
  case miss =>
    obtain ⟨_, hexec⟩ := hcases.resolve_left (by simp [hmiss])
    rw [← acceptSpecial_eq]
    exact hexec

/-! ### The other special address bytes (R178 to R181) -/

/-- Settles O23: every row is a command kind alone, at an address byte the resolver calls special. -/
theorem otherSpecialCommands : Obligations.OtherSpecialCommands := by
  unfold Obligations.OtherSpecialCommands
  intro ib op s after
  have row {ab : Byte} (c : CmdKind) (h : specResolve ab = (.special, 0#6, false)) :
      (.next (acceptSpecial (CmdPart.bare c) ab ib op s) : Host.Outcome State Fault Refusal) = .next (after ab c) :=
    congrArg _ (acceptSpecial_eq_resolved h (CmdPart.bare c) ib op s)
  refine ⟨?directWrite, ?dtr1Dtr0, ?dtr2Dtr1, fun n hwf => ?unknown⟩
  case directWrite => exact row (ab := 0xC5#8) .spcDirectWrite (by decide)
  case dtr1Dtr0 => exact row (ab := 0xC7#8) .spcDtr1Dtr0 (by decide)
  case dtr2Dtr1 => exact row (ab := 0xC9#8) .spcDtr2Dtr1 (by decide)
  case unknown =>
    have hresolve := specResolve_s24Unknown hwf
    exact ⟨row .spcUnknown hresolve, hresolve⟩

end Sys2Proof.Proofs
end

section
/-! PROOF. What the 24-bit device-command rows leave in the result bank. An addressed row is the one row of stage `G24` at its
form, so each statement is the stage's with the address the resolver gives the form (R200 to R203); a reserved row accepts
the frame without fields and looks nothing up (R204). -/

namespace Sys2Proof.Proofs

open Sys2Proof.Machine Sys2Proof.Laws

/-! ### Addressed frames (R200 to R203) -/

/-- Settles O19: the four rows run stage `G24` at their form, and the resolver gives the form's address. -/
theorem addressedControlFrames : Obligations.AddressedControlFrames := by
  unfold Obligations.AddressedControlFrames
  intro ib op s after
  have stage (form : AddrForm) : execG24Lut form ib op s = .next (after (specResolve form.byte) form.byte) :=
    execG24Lut_eq form ib op s
  have row (form : AddrForm) : execG24Lut form ib op s =
      .next (after ((formPart form).akind, (formPart form).af1, (formPart form).af1v) form.byte) := by
    rw [← specResolve_formByte]
    exact stage form
  exact ⟨fun a => row (.short a), fun x g => row (.group x g), row .bcUnaddr, row .bc, stage⟩

/-! ### Reserved address bytes (R204) -/

/-- On a reserved address byte the record is the one the spec builds from the resolver (R204). -/
theorem reserved24_eq_resolved {ab : Byte} (h : specResolve ab = (.reserved, 0#6, false)) (ib op : Byte) (s : State) :
    reserved24 ab ib op s =
      afterAccepted s (frame24Record (specResolve ab) ab ib op (CmdPart.bare .reserved) s.ctx) :=
  accept24_bare s h (CmdPart.bare .reserved) ib op

/-- Settles O20: the address bytes of each row resolve to reserved, and the row names the reserved command alone. -/
theorem reservedControlFrames : Obligations.ReservedControlFrames := by
  unfold Obligations.ReservedControlFrames
  intro ib op s after
  have row {ab : Byte} (h : specResolve ab = (.reserved, 0#6, false)) :
      (.next (reserved24 ab ib op s) : Host.Outcome State Fault Refusal) = .next (after ab) ∧
        specResolve ab = (.reserved, 0#6, false) :=
    ⟨congrArg _ (reserved24_eq_resolved h ib op s), h⟩
  refine ⟨fun n => ?reservedE, fun n => ?reservedF1, fun n => ?reservedF9⟩
  case reservedE => exact row (specResolve_a24ReservedE n)
  case reservedF1 => exact row (specResolve_a24ReservedF1 n)
  case reservedF9 => exact row (specResolve_a24ReservedF9 n)

end Sys2Proof.Proofs
end

section
/-! PROOF. When a result has a text (R210, R239, R242): the record of an accepted FRAME names a length class, a command
kind and, where that kind renders through a table, an address the image maps. -/

namespace Sys2Proof.Proofs

open Sys2Proof.Machine Sys2Proof.Laws

/-! ### The two strings of a state (R210, R211) -/

theorem cfg_of_step_presenting {s t : State} {w : OpWord} (h : step (s.presenting w) = .next t) : t.cfg = s.cfg := by
  obtain ⟨t', hstep, heffect⟩ := step_effect (s := s.presenting w) rfl
  obtain rfl : t' = t := by simpa [hstep] using h
  exact heffect.cfg_eq

/-- The two strings by the parts of the record they come from. -/
theorem text_eq_some_iff (dc : Decoded) (cfg : Config) (lbl txt : Text) : text dc cfg = some (lbl, txt) ↔
    ∃ n, labelWidth cfg dc.lc = some n ∧ cmdText dc cfg.img = some txt ∧ lbl = padded n (label dc) := by
  unfold text
  cases labelWidth cfg dc.lc with
  | none => simp
  | some n =>
    cases cmdText dc cfg.img with
    | none => simp
    | some c => simp [padded, pad, and_comm, eq_comm]

theorem stateText_of_valid {s : State} (h : s.res.valid = true) : s.text = text s.res.dc s.cfg := if_pos h

theorem valid_of_stateText {s : State} {strings : Text × Text} (h : s.text = some strings) : s.res.valid = true := by
  by_contra hvalid
  rw [State.text, if_neg hvalid] at h
  cases h

/-- Where a state has a text, the record has a label width and a command text. -/
theorem parts_of_stateText {s : State} {lbl txt : Text} (h : s.text = some (lbl, txt)) :
    ∃ n, labelWidth s.cfg s.res.dc.lc = some n ∧ cmdText s.res.dc s.cfg.img = some txt ∧
      lbl = padded n (label s.res.dc) := by
  rw [stateText_of_valid (valid_of_stateText h)] at h
  exact (text_eq_some_iff _ _ _ _).mp h

theorem text_afterRejected (s : State) (e : ErrCode) : (afterRejected s e).text = none := rfl

/-! ### The commands that have a text (R239) -/

/-- The table a command kind takes its name from (R222, R224, R227). -/
def tableOf : CmdKind → Option Space
  | .gearNamed | .gearCounted => some .gear
  | .ctrlNamed => some .ctrl
  | .spcC1Named => some .c1
  | _ => none

/-- What a command text needs of the command: a kind, and the entry it names. -/
structure Renders (m : Memory) (k : CmdKind) (tmpl : Byte) : Prop where
  kind : k ≠ .none
  entry : ∀ space, tableOf k = some space → memRead m space tmpl ≠ none

theorem Renders.untabled {m : Memory} {k : CmdKind} {tmpl : Byte} (hkind : k ≠ .none) (htable : tableOf k = none) :
    Renders m k tmpl :=
  ⟨hkind, fun space h => by simp [htable] at h⟩

theorem Renders.tabled {m : Memory} {k : CmdKind} {tmpl : Byte} {space : Space} (hkind : k ≠ .none)
    (htable : tableOf k = some space) (hread : memRead m space tmpl ≠ none) : Renders m k tmpl := by
  refine ⟨hkind, fun space' h => ?_⟩
  obtain rfl : space = space' := Option.some.inj (htable.symm.trans h)
  exact hread

/-- The name an entry lends to a text. -/
theorem Renders.name {m : Memory} {k : CmdKind} {tmpl : Byte} {space : Space} (h : Renders m k tmpl)
    (htable : tableOf k = some space) : ∃ n, nameAt m space tmpl = some n := by
  obtain ⟨e, hread⟩ := Option.ne_none_iff_exists'.mp (h.entry space htable)
  exact ⟨e.name.toList, by rw [nameAt, hread]; rfl⟩

theorem cmdText_of_renders {dc : Decoded} {m : Memory} (h : Renders m dc.ckind dc.tmpl) :
    ∃ txt, cmdText dc m = some txt := by
  unfold cmdText
  cases hkind : dc.ckind with
  | none => exact absurd hkind h.kind
  | gearNamed => exact h.name (by rw [hkind]; rfl)
  | gearCounted =>
    obtain ⟨n, hname⟩ := h.name (space := .gear) (by rw [hkind]; rfl)
    exact ⟨_, congrArg (Option.map _) hname⟩
  | ctrlNamed => exact h.name (by rw [hkind]; rfl)
  | spcC1Named =>
    obtain ⟨n, hname⟩ := h.name (space := .c1) (by rw [hkind]; rfl)
    exact ⟨_, congrArg (Option.map _) hname⟩
  | _ => exact ⟨_, rfl⟩

/-! ### Every decoded command has a text (R242 (a)) -/

section
variable {m : Memory}

/-- The six family bases are mapped (R31), and a table row names what it has just read. -/
theorem specGearCmd_renders (hm : isConfiguration m = true) (op : Byte) :
    Renders m (specGearCmd m op).1 (specGearCmd m op).2 := by
  cases hfamily : isFamily op with
  | true =>
    rw [specGearCmd_family hfamily]
    exact .tabled nofun rfl (memRead_gear_familyBase hm ((isFamily_iff op).mp hfamily))
  | false =>
    rw [specGearCmd_table hfamily]
    cases hread : memRead m .gear op with
    | none => exact .untabled nofun rfl
    | some e => exact .tabled nofun rfl (by simp [hread])

theorem specCtrlCmd_renders (op : Byte) : Renders m (specCtrlCmd m op).ckind (specCtrlCmd m op).tmpl := by
  unfold specCtrlCmd
  cases hread : memRead m .ctrl op with
  | none => exact .untabled nofun rfl
  | some e => exact .tabled nofun rfl (by simp [hread])

theorem specSpecial24_renders (ab ib op : Byte) :
    Renders m (specSpecial24 m ab ib op).ckind (specSpecial24 m ab ib op).tmpl := by
  unfold specSpecial24
  split_ifs
  · exact .untabled nofun rfl
  · cases hread : memRead m .c1 ib with
    | none => exact .untabled nofun rfl
    | some e => exact .tabled nofun rfl (by simp [hread])
  all_goals exact .untabled nofun rfl

theorem command16_renders (hm : isConfiguration m = true) (k : AddrKind) (op : Byte) :
    Renders m (command16 m k op).1 (command16 m k op).2 := by
  cases k with
  | short | group | bcUnaddr | bc => exact specGearCmd_renders hm op
  | _ => exact .untabled nofun rfl

theorem command24_renders (k : AddrKind) (ab ib op : Byte) :
    Renders m (command24 m k ab ib op).ckind (command24 m k ab ib op).tmpl := by
  cases k with
  | short | group | bcUnaddr | bc => exact specCtrlCmd_renders op
  | special => exact specSpecial24_renders ab ib op
  | _ => exact .untabled nofun rfl

/-- No event reads a table (R130). -/
theorem specEvent_renders (v : Value) (ctx : Byte) :
    (specEvent v ctx).lc = .w24 ∧ Renders m (specEvent v ctx).ckind (specEvent v ctx).tmpl := by
  unfold specEvent
  split
  · exact ⟨rfl, .untabled nofun rfl⟩
  · split <;> exact ⟨rfl, .untabled nofun rfl⟩

theorem specDec24_renders (v : Value) (ctx : Byte) :
    (specDec24 m v ctx).lc = .w24 ∧ Renders m (specDec24 m v ctx).ckind (specDec24 m v ctx).tmpl := by
  cases hodd : (byteHi v).getLsbD 0 with
  | true =>
    rw [specDec24_odd m hodd]
    exact ⟨rfl, command24_renders _ _ _ _⟩
  | false =>
    rw [specDec24_even m hodd]
    exact specEvent_renders v ctx

end

/-- The label width of a FRAME by its length (R210, R211). -/
def frameLabelWidth (cfg : Config) (len : Byte) : Nat :=
  if len = 8#8 then cfg.labelW8 else if len = 16#8 then cfg.labelW16 else cfg.labelW24

/-- A FRAME in contract decodes to a record with a label width and a command that has a text. -/
theorem specDecode_renders {cfg : Config} (hm : isConfiguration cfg.img = true) {len : Byte}
    (hlen : len = 8#8 ∨ len = 16#8 ∨ len = 24#8) {v : Value} (hv : v.toNat < 2 ^ len.toNat) (ctx : Byte) :
    ∃ dc, specDecode cfg.img len v ctx = .ok dc ∧ labelWidth cfg dc.lc = some (frameLabelWidth cfg len) ∧
      Renders cfg.img dc.ckind dc.tmpl := by
  obtain rfl | rfl | rfl := hlen
  · exact ⟨_, specDecode_8 cfg.img hv ctx, rfl, .untabled nofun rfl⟩
  · rw [specDecode_16 cfg.img hv ctx, specDec16_eq]
    exact ⟨_, rfl, rfl, command16_renders hm _ _⟩
  · obtain ⟨hlc, hrenders⟩ := specDec24_renders (m := cfg.img) v ctx
    exact ⟨_, specDecode_24 cfg.img v ctx, by rw [hlc]; rfl, hrenders⟩

/-- A FRAME in contract leaves a text: its record's label, padded to the width of its length, and its command text. -/
theorem text_of_inContract {s : State} {w : OpWord} (hm : isConfiguration s.cfg.img = true) (hw : inContract w) :
    ∃ dc txt, step (s.presenting w) = .next (afterAccepted { s with input := [] } dc) ∧
      (afterAccepted { s with input := [] } dc).text =
        some (padded (frameLabelWidth s.cfg (opLen w)) (label dc), txt) := by
  obtain ⟨hsel, hlen, hrange⟩ := hw
  obtain ⟨dc, hdecode, hwidth, hrenders⟩ := specDecode_renders hm ((lengths_toNat _).mp hlen) hrange s.ctx
  obtain ⟨txt, htext⟩ := cmdText_of_renders hrenders
  have hframe : specFrame { s with input := [] } (opLen w) (opValue w) = afterAccepted { s with input := [] } dc :=
    specFrame_ok hdecode
  have hstep : step (s.presenting w) = .next (specFrame { s with input := [] } (opLen w) (opValue w)) :=
    step_eq_specFrame (s := s.presenting w) rfl hsel
  exact ⟨dc, txt, hstep.trans (congrArg _ hframe), (text_eq_some_iff dc s.cfg _ _).mpr ⟨_, hwidth, htext, rfl⟩⟩

/-- Settles O49: an accepted FRAME's record has both parts of a text; a rejected one leaves `RES_VALID = 0`. -/
theorem acceptedFramesHaveTexts : Obligations.AcceptedFramesHaveTexts := by
  unfold Obligations.AcceptedFramesHaveTexts
  intro s w hm hsel
  by_cases hw : inContract w
  · obtain ⟨dc, txt, hstep, htext⟩ := text_of_inContract hm hw
    exact ⟨_, hstep, fun _ => ⟨_, _, htext⟩, fun _ => hw⟩
  · obtain ⟨e, -, hstep⟩ := step_notInContract (s := s.presenting w) rfl hsel hw
    refine ⟨_, hstep, fun hin => absurd hin hw, fun ⟨lbl, txt, htext⟩ => ?_⟩
    rw [text_afterRejected] at htext
    cases htext

end Sys2Proof.Proofs
end

section
/-! PROOF. The labels (R211 to R219): none is longer than nine characters, and each kind has its template. -/

namespace Sys2Proof.Proofs

open Sys2Proof.Machine Sys2Proof.Laws

/-! ### The length of a label (R211, R242 (b)) -/

theorem length_padded (n : Nat) (l : Text) : (padded n l).length = max n l.length := by
  rw [padded, List.length_append, List.length_replicate]
  omega

theorem dec2_field (f : BitVec 6) : dec2 f.toNat = twoDigits f.toNat := dec2_eq_twoDigits (by omega)

theorem length_dec2_field (f : BitVec 6) : (dec2 f.toNat).length = 2 := by
  rw [dec2_field]
  rfl

theorem length_eventLabel (p1 p2 : String) (dc : Decoded) :
    (eventLabel p1 p2 dc).length = p1.length + p2.length + 5 := by
  simp only [eventLabel, List.length_append, length_dec2_field, String.length_toList]
  have hcomma : ",".length = 1 := by decide
  omega

/-- The longest label is `BC unadr.`. -/
theorem length_label_le (dc : Decoded) : (label dc).length ≤ 9 := by
  unfold label
  cases dc.akind with
  | short | group => simp [length_dec2_field]
  | evDevice | evDeviceInstance | evDeviceGroup | evInstance | evInstanceGroup =>
    rw [length_eventLabel]
    decide
  | powerCycle =>
    cases dc.af1v <;> cases dc.af2v <;> simp [length_dec2_field]
  | bcUnaddr => exact (by decide : "BC unadr.".toList.length ≤ 9)
  | bc => exact (by decide : "BC".toList.length ≤ 9)
  | none | special | reserved | unmatched | evReserved => exact Nat.zero_le 9

/-- Settles O50: padding reaches the width, and no label is longer than nine characters. -/
theorem labelsFillTheirWidth : Obligations.LabelsFillTheirWidth := by
  unfold Obligations.LabelsFillTheirWidth
  intro s t w lbl txt n _ hstep htext hwidth
  obtain ⟨n', hwidth', -, rfl⟩ := parts_of_stateText htext
  rw [cfg_of_step_presenting hstep, hwidth] at hwidth'
  obtain rfl := Option.some.inj hwidth'
  have hshort := length_label_le t.res.dc
  rw [length_padded]
  exact ⟨rfl, fun hn => max_eq_left (hshort.trans hn)⟩

/-! ### The labels by kind (R212 to R219) -/

/-- The label of an addressed form, under either frame width (R212 to R215). -/
theorem label_form (form : AddrForm) {dc : Decoded} (hkind : dc.akind = (specResolve form.byte).1)
    (hfield : dc.af1 = (specResolve form.byte).2.1) : label dc = form.templateLabel := by
  rw [specResolve_formByte] at hkind hfield
  unfold label
  rw [hkind, hfield]
  cases form with
  | short a => exact congrArg ("A".toList ++ ·) (dec2_field a)
  | group x g => exact congrArg ("G".toList ++ ·) ((dec2_field _).trans (congrArg twoDigits (groupField_toNat g)))
  | bcUnaddr => rfl
  | bc => rfl

/-- The label of a power-cycle notification: each field where it is present (R219, R238). -/
def powerCycleLabel (gv : BitVec 1) (g : BitVec 5) (av : BitVec 1) (a : BitVec 6) : Text :=
  (if gv = 1#1 then "G".toList ++ twoDigits g.toNat else []) ++
    (if av = 1#1 then "A".toList ++ twoDigits a.toNat else [])

theorem label_powerCycle (gv : BitVec 1) (g : BitVec 5) (av : BitVec 1) (a : BitVec 6) (v : Value) (ctx : Byte) :
    label (eventValueRecord (powerCyclePart gv g av a) .powerCycle v ctx) = powerCycleLabel gv g av a := by
  rw [powerCycleLabel, ← dec2_eventField g, ← dec2_field a]
  by_cases hg : gv = 1#1 <;> by_cases ha : av = 1#1 <;>
    simp [label, eventValueRecord, record24, powerCyclePart, hg, ha]

/-- The kinds that have no label (R216, R218). -/
theorem label_blank {dc : Decoded}
    (h : dc.akind ∈ [AddrKind.none, .special, .reserved, .unmatched, .evReserved]) : label dc = [] := by
  simp only [List.mem_cons, List.not_mem_nil, or_false] at h
  unfold label
  obtain h | h | h | h | h := h <;> rw [h]

theorem step_power (gv : BitVec 1) (g : BitVec 5) (av : BitVec 1) (a : BitVec 6) (s : State) :
    step (s.presenting (assemble (asmPower gv g av a))) = .next (afterAccepted { s with input := [] }
      (eventValueRecord (powerCyclePart gv g av a) .powerCycle (powerCycleValue gv g av a) s.ctx)) := by
  rw [assemble_power, step_presenting, encode, decode_frameWord, decodeFrame_24,
    if_pos (powerCycleValue_selector gv g av a), decodeEvent_powerCycleValue]
  rfl

/-- Settles O56: the template of each form, the fields of a power-cycle notification, and the blank labels. -/
theorem labelTemplates : Obligations.LabelTemplates := by
  unfold Obligations.LabelTemplates
  intro s hm
  refine ⟨fun form ib op => ?forms, fun gv g av a => ?powerCycle, fun w hw => ?blank⟩
  case forms =>
    obtain ⟨txt, htext⟩ := cmdText_of_renders (m := s.cfg.img)
      (dc := frame16Record (specResolve form.byte) form.byte op (specGearCmd s.cfg.img op)) (specGearCmd_renders hm op)
    obtain ⟨txt', htext'⟩ := cmdText_of_renders (m := s.cfg.img)
      (dc := frame24Record (specResolve form.byte) form.byte ib op (specCtrlCmd s.cfg.img op) s.ctx)
      (specCtrlCmd_renders op)
    have hgear := text_afterAccepted16 (s := { s with input := [] }) rfl htext
    have hcontrol := text_afterAccepted24 (s := { s with input := [] }) rfl htext'
    rw [label_form form rfl rfl] at hgear hcontrol
    exact ⟨_, _, txt, txt', step_gearForm form op s, hgear, step_controlForm form ib op s, hcontrol⟩
  case powerCycle =>
    refine ⟨_, step_power gv g av a s, ?_⟩
    rw [text_afterAccepted24 rfl rfl, label_powerCycle]
    rfl
  case blank =>
    obtain ⟨dc, txt, hstep, htext⟩ := text_of_inContract hm hw
    refine ⟨_, _, txt, hstep, htext, fun hkind => ?_⟩
    rw [label_blank (dc := dc) hkind]
    rfl

end Sys2Proof.Proofs
end

section
/-! PROOF. The texts by kind of frame. A command frame leaves the record the spec builds from the resolver and the command
of its address byte (R97, R98), so its text is the text of that command; the number formats stay as they are written. -/

namespace Sys2Proof.Proofs

open Sys2Proof.Machine Sys2Proof.Laws

/-! ### 8-bit frames (R221) -/

theorem step_data (d : Byte) (s : State) :
    step (s.presenting (frameWord 8#8 (0#16 ++ d))) = .next ({ s with input := [] }.accept (record8 d s.ctx)) := by
  rw [step_presenting, decode_frameWord, decodeFrame_8, if_pos (highHalf_data d), byteLo_data]
  rfl

/-- Settles O53. -/
theorem dataFrameText : Obligations.DataFrameText := by
  unfold Obligations.DataFrameText
  intro d s
  exact ⟨_, step_data d s, (text_eq_some_iff (record8 d s.ctx) s.cfg _ _).mpr ⟨s.cfg.labelW8, rfl, rfl, rfl⟩⟩

/-! ### The step on a command frame -/

theorem step_word16 (ab op : Byte) (s : State) :
    step (s.presenting (word16 ab op)) = .next (afterAccepted { s with input := [] }
      (frame16Record (specResolve ab) ab op (command16 s.cfg.img (specResolve ab).1 op))) := by
  rw [step_eq_specFrame (s := s.presenting (word16 ab op)) rfl (opSel_frameWord _ _), word16, opLen_frameWord,
    opValue_frameWord, specFrame_word16]
  rfl

theorem step_word24 {ab : Byte} (hodd : ab.getLsbD 0 = true) (ib op : Byte) (s : State) :
    step (s.presenting (word24 ab ib op)) = .next (afterAccepted { s with input := [] }
      (frame24Record (specResolve ab) ab ib op (command24 s.cfg.img (specResolve ab).1 ab ib op) s.ctx)) := by
  rw [step_eq_specFrame (s := s.presenting (word24 ab ib op)) rfl (opSel_frameWord _ _), word24, opLen_frameWord,
    opValue_frameWord, specFrame_word24 _ hodd]
  rfl

/-- The operation `w` leaves a result with the text `txt`, under some label. -/
def Shows (s : State) (w : OpWord) (txt : Text) : Prop :=
  ∃ t lbl, step (s.presenting w) = .next t ∧ t.text = some (lbl, txt)

section
variable {ab ib op : Byte} {s : State} {k : AddrKind} {txt : Text}

/-- A 16-bit frame has the text of the command its address kind selects (R97). -/
theorem shows_word16 (hkind : (specResolve ab).1 = k)
    (htext : cmdText (frame16Record (specResolve ab) ab op (command16 s.cfg.img k op)) s.cfg.img = some txt) :
    Shows s (word16 ab op) txt := by
  subst hkind
  exact ⟨_, _, step_word16 ab op s, text_afterAccepted16 rfl htext⟩

/-- A 24-bit command frame has the text of the command its address kind selects (R98). -/
theorem shows_word24 (hodd : ab.getLsbD 0 = true) (hkind : (specResolve ab).1 = k)
    (htext : cmdText (frame24Record (specResolve ab) ab ib op (command24 s.cfg.img k ab ib op) s.ctx) s.cfg.img =
      some txt) : Shows s (word24 ab ib op) txt := by
  subst hkind
  exact ⟨_, _, step_word24 hodd ib op s, text_afterAccepted24 rfl htext⟩

/-- A special command has the text of its row of `SPECIAL24` (R170). -/
theorem shows_special24 {cmd : CmdPart} (hodd : ab.getLsbD 0 = true) (hkind : (specResolve ab).1 = .special)
    (hcmd : specSpecial24 s.cfg.img ab ib op = cmd)
    (htext : cmdText (frame24Record (specResolve ab) ab ib op cmd s.ctx) s.cfg.img = some txt) :
    Shows s (word24 ab ib op) txt := by
  subst hcmd
  exact shows_word24 hodd hkind htext

end

/-! ### INITIALISE (R226) -/

theorem getLsbD_zero_iff_odd (b : Byte) : b.getLsbD 0 = true ↔ b.toNat % 2 = 1 := by
  simp [BitVec.getLsbD, Nat.testBit_zero]

/-- The text of an INITIALISE opcode byte by the partition of R171. -/
theorem initialiseText_specInitSub {dc : Decoded} (h : dc.isub = specInitSub dc.op) : initialiseText dc =
    if dc.op = 0xFF#8 then "INITIALISE (UNADDRESSED)".toList
    else if dc.op = 0x00#8 then "INITIALISE (ALL)".toList
    else if dc.op.toNat % 2 = 1 ∧ dc.op.toNat ≤ 0x7F then
      "INITIALISE (G".toList ++ dec2 (dc.op.toNat / 2) ++ ")".toList
    else "INITIALISE (NONE) - 0x".toList ++ hexUpper 2 dc.op.toNat := by
  have hone : dc.op.getLsbD 0 = true ∧ 0x01 ≤ dc.op.toNat ∧ dc.op.toNat ≤ 0x7F ↔
      dc.op.toNat % 2 = 1 ∧ dc.op.toNat ≤ 0x7F := by
    rw [getLsbD_zero_iff_odd]
    omega
  unfold initialiseText
  rw [h, specInitSub]
  simp only [hone]
  split_ifs <;> rfl

/-- Settles O55: the sub-case is the pseudocode's of the opcode byte. -/
theorem initialiseTexts : Obligations.InitialiseTexts := by
  unfold Obligations.InitialiseTexts
  intro op s
  rw [assemble_initialise]
  exact shows_special24 (by decide) (by decide) rfl (congrArg some (initialiseText_specInitSub rfl))

/-! ### Table entries (R222, R224, R227, R228) -/

theorem memRead_isSome_of_nameAt {m : Memory} {space : Space} {a : Byte} {n : Text} (h : nameAt m space a = some n) :
    (memRead m space a).isSome = true := by
  obtain ⟨e, hread, -⟩ := Option.map_eq_some_iff.mp h
  simp [hread]

theorem specGearCmd_hit {img : Image} {op : Byte} {n : Text} (hop : isFamily op = false)
    (hname : nameAt img .gear op = some n) : specGearCmd img op = (.gearNamed, op) := by
  rw [specGearCmd_table hop, if_pos (memRead_isSome_of_nameAt hname)]

theorem specCtrlCmd_hit {img : Image} {op : Byte} {n : Text} (hname : nameAt img .ctrl op = some n) :
    specCtrlCmd img op = ⟨.ctrlNamed, op, .plain, .unaddressed⟩ := by
  rw [specCtrlCmd, if_pos (memRead_isSome_of_nameAt hname)]

/-- The payload of a `C1` entry in hex and decimal, after the name (R227). -/
def hexDecText (op : Byte) : Text := " 0x".toList ++ hexUpper 2 op.toNat ++ " = ".toList ++ dec op.toNat

section
variable (n : Text) {dc : Decoded}

theorem payloadText_plain (h : dc.shape = .plain) : payloadText n dc = n := by
  rw [payloadText, h]

theorem payloadText_hexDec (h : dc.shape = .hexDec) : payloadText n dc = n ++ hexDecText dc.op := by
  have hprefix : " 0x".toList = " ".toList ++ "0x".toList := by simp
  rw [payloadText, h, hexDecText, hprefix, hexByte]
  simp only [List.append_assoc]

theorem payloadText_hexDecBin (h : dc.shape = .hexDecBin) : payloadText n dc =
    n ++ hexDecText dc.op ++ " = ".toList ++ binary 8 dc.op.toNat ++ "b".toList := by
  rw [← payloadText_hexDec n (dc := { dc with shape := .hexDec }) rfl, payloadText, h]
  rfl

end

section
variable {ib op : Byte} {s : State}

/-- A `C1` hit has the entry's name and the payload its shape asks for. -/
theorem shows_c1_hit (hib : ib ≠ 0x01#8) {e : RomEntry} (hread : memRead s.cfg.img .c1 ib = some e) {txt : Text}
    (hpayload : payloadText e.name.toList (frame24Record (specResolve 0xC1#8) 0xC1#8 ib op
      ⟨.spcC1Named, ib, e.shape, .unaddressed⟩ s.ctx) = txt) : Shows s (word24 0xC1#8 ib op) txt := by
  have hname : nameAt s.cfg.img .c1 ib = some e.name.toList := by rw [nameAt, hread]; rfl
  refine shows_special24 (by decide) (by decide) (specSpecial24_c1_hit _ hib hread op) ?_
  rw [← hpayload]
  exact congrArg (Option.map _) hname

theorem shows_c1_miss (hib : ib ≠ 0x01#8) (hread : memRead s.cfg.img .c1 ib = none) : Shows s (word24 0xC1#8 ib op)
    (placeholder ib "UNDEFINED CONTROL DEVICE SPECIAL COMMAND") :=
  shows_special24 (by decide) (by decide) (specSpecial24_c1_miss _ hib hread op) rfl

end

/-- Settles O57: a hit names its entry; under 0xC1 the shape adds the payload, and a miss is a placeholder. -/
theorem tableEntryTexts : Obligations.TableEntryTexts := by
  unfold Obligations.TableEntryTexts
  intro form ib op s
  refine ⟨fun n hop hname => ?gear, fun n hname => ?control, fun hib => ?c1⟩
  case gear => exact gearForm_shows (specGearCmd_hit hop hname) hname
  case control => exact controlForm_shows (specCtrlCmd_hit hname) hname
  case c1 =>
    cases hread : memRead s.cfg.img .c1 ib with
    | none =>
      have hmiss : Shows s (word24 0xC1#8 ib op) _ := shows_c1_miss hib hread
      rw [placeholder_eq_code] at hmiss
      exact hmiss
    | some e =>
      obtain ⟨n, shape⟩ := e
      cases shape with
      | plain => exact shows_c1_hit hib hread (payloadText_plain _ rfl)
      | hexDec => exact shows_c1_hit hib hread (payloadText_hexDec _ rfl)
      | hexDecBin => exact shows_c1_hit hib hread (payloadText_hexDecBin _ rfl)

/-! ### Frames that reach no table (R229 to R235) -/

/-- The placeholder of a byte (R220), the separating space counted to the tail. -/
theorem placeholder_eq_hexByte (b : Byte) (tail : String) : placeholder b tail =
    "--- CODE ".toList ++ hexByte b ++ " = ".toList ++ dec b.toNat ++ (" ".toList ++ tail.toList) :=
  List.append_assoc _ _ _

/-- The twelve odd bytes of the special range without a command (R181, R232). -/
def unassignedBytes : List Byte :=
  [0xC3#8, 0xCB#8, 0xCD#8, 0xCF#8, 0xD1#8, 0xD3#8, 0xD5#8, 0xD7#8, 0xD9#8, 0xDB#8, 0xDD#8, 0xDF#8]

theorem unassignedBytes_special : ∀ ab ∈ unassignedBytes, ab.getLsbD 0 = true ∧ (specResolve ab).1 = .special ∧
    ab ≠ 0xC1#8 ∧ ab ≠ 0xC5#8 ∧ ab ≠ 0xC7#8 ∧ ab ≠ 0xC9#8 := by
  decide

/-- Settles O58: the address byte alone selects the command kind, and the text reads the echoed bytes. -/
theorem untabledTexts : Obligations.UntabledTexts := by
  unfold Obligations.UntabledTexts
  intro ib op s shows hex code
  refine ⟨?directWrite, ?dtr1Dtr0, ?dtr2Dtr1, fun ab hab => ?unassigned, fun ab hab => ?special16,
    fun ab hab => ?unmatched, fun ab hab => ⟨?reserved16, fun hodd => ?reserved24⟩⟩
  case directWrite => exact shows_special24 (by decide) (by decide) rfl rfl
  case dtr1Dtr0 => exact shows_special24 (by decide) (by decide) rfl rfl
  case dtr2Dtr1 => exact shows_special24 (by decide) (by decide) rfl rfl
  case unassigned =>
    obtain ⟨hodd, hkind, hne⟩ := unassignedBytes_special ab hab
    exact shows_special24 hodd hkind (specSpecial24_unknown _ hne ib op) (congrArg some (placeholder_eq_hexByte ab _))
  case special16 => exact shows_word16 hab (congrArg some (placeholder_eq_hexByte ab _))
  case unmatched => exact shows_word16 hab (congrArg some (placeholder_eq_hexByte ab _))
  case reserved16 => exact shows_word16 hab rfl
  case reserved24 => exact shows_word24 hodd hab rfl

end Sys2Proof.Proofs
end

section
/-! PROOF. The three visual classes of a text (R220, R242 (c)). R250 keeps the names of an image apart from the
placeholders by their first character and from `RESERVED` by their whole text; a name with a payload holds a space, which
`RESERVED` does not; every other text is told apart by its first characters. -/

namespace Sys2Proof.Proofs

open Sys2Proof.Machine Sys2Proof.Laws

/-! ### The texts that are neither a placeholder nor `RESERVED` -/

/-- A text of the third class: no placeholder starts like it, and it is not `RESERVED`. -/
structure IsNamed (t : Text) : Prop where
  head : t.head? ≠ some '-'
  reserved : t ≠ "RESERVED".toList

theorem isNamed_of_prefix {p t : Text} (hpre : p <+: t) (hp : p ≠ []) (hhead : p.head? ≠ some '-')
    (hreserved : ¬ p <+: "RESERVED".toList) : IsNamed t := by
  obtain ⟨rest, rfl⟩ := hpre
  refine ⟨?_, fun h => hreserved (h ▸ List.prefix_append p rest)⟩
  rwa [List.head?_append_of_ne_nil p hp]

theorem isNamed_name {n : String} (hname : isName n = true) : IsNamed n.toList := by
  obtain ⟨-, -, hhyphen, -, -, hreserved⟩ := (isName_iff n).mp hname
  exact ⟨hhyphen, hreserved⟩

/-- `RESERVED` holds no space. -/
theorem isNamed_name_space {n : String} (hname : isName n = true) {t : Text} (hpre : n.toList ++ " ".toList <+: t) :
    IsNamed t := by
  obtain ⟨hne, -, hhyphen, -, -, -⟩ := (isName_iff n).mp hname
  refine isNamed_of_prefix hpre (by simp [hne]) ?_ fun h => ?_
  · rwa [List.head?_append_of_ne_nil _ hne]
  · have hspace : ' ' ∈ "RESERVED".toList := h.subset (by simp)
    revert hspace
    decide

theorem isNamed_literal (p : String)
    (hp : p.toList ≠ [] ∧ p.toList.head? ≠ some '-' ∧ ¬ p.toList <+: "RESERVED".toList) {t : Text}
    (hpre : p.toList <+: t) : IsNamed t := by
  obtain ⟨hne, hhead, hreserved⟩ := hp
  exact isNamed_of_prefix hpre hne hhead hreserved

/-! ### The class of each command text -/

/-- A name read from the image is one R250 allows. -/
theorem nameAt_isName {m : Memory} (hm : isConfiguration m = true) {space : Space} {a : Byte} {t : Text}
    (h : nameAt m space a = some t) : ∃ n : String, isName n = true ∧ n.toList = t := by
  obtain ⟨e, hread, rfl⟩ := Option.map_eq_some_iff.mp h
  exact ⟨e.name, memRead_isName hm hread, rfl⟩

theorem isNamed_initialiseText (dc : Decoded) : IsNamed (initialiseText dc) := by
  have hpre : "INITIALISE ".toList <+: initialiseText dc := by
    unfold initialiseText
    cases dc.isub <;> simp
  exact isNamed_literal "INITIALISE " (by decide) hpre

theorem isNamed_payloadText {n : String} (hname : isName n = true) (dc : Decoded) :
    IsNamed (payloadText n.toList dc) := by
  unfold payloadText
  cases dc.shape with
  | plain => exact isNamed_name hname
  | hexDec => exact isNamed_name_space hname (by simp)
  | hexDecBin => exact isNamed_name_space hname (by simp)

/-- The class of a command kind, with what the texts of that class look like. -/
inductive VisualClass (k : CmdKind) (t : Text) : Prop where
  | placeholder (hkind : k.isPlaceholder = true) (b : Byte) (tail : String) (htext : placeholder b tail = t)
  | reserved (hkind : k = .reserved) (htext : "RESERVED".toList = t)
  | named (hplaceholder : k.isPlaceholder = false) (hreserved : k ≠ .reserved) (htext : IsNamed t)

/-- Under an image of this block every command text is of its kind's class. -/
theorem visualClass_of_cmdText {dc : Decoded} {m : Memory} {txt : Text} (hm : isConfiguration m = true)
    (h : cmdText dc m = some txt) : VisualClass dc.ckind txt := by
  unfold cmdText at h
  cases hkind : dc.ckind <;> rw [hkind] at h
  case none => cases h
  case gearUndef | ctrlUndef | spcC1Undef | spcUnknown | spc16Unknown | unmatched =>
    exact .placeholder rfl _ _ (Option.some.inj h)
  case reserved => exact .reserved rfl (Option.some.inj h)
  case gearNamed | ctrlNamed =>
    obtain ⟨n, hname, rfl⟩ := nameAt_isName hm h
    exact .named rfl nofun (isNamed_name hname)
  case gearCounted =>
    obtain ⟨t, hread, rfl⟩ := Option.map_eq_some_iff.mp h
    obtain ⟨n, hname, rfl⟩ := nameAt_isName hm hread
    exact .named rfl nofun (isNamed_name_space hname (List.prefix_append _ _))
  case spcC1Named =>
    obtain ⟨t, hread, rfl⟩ := Option.map_eq_some_iff.mp h
    obtain ⟨n, hname, rfl⟩ := nameAt_isName hm hread
    exact .named rfl nofun (isNamed_payloadText hname dc)
  all_goals
    obtain rfl := Option.some.inj h
    refine .named rfl nofun ?_
  case data8 => exact isNamed_literal "DATA " (by decide) (List.prefix_append _ _)
  case spcInitialise => exact isNamed_initialiseText dc
  case spcDirectWrite =>
    simp only [List.append_assoc]
    exact isNamed_literal "DIRECT WRITE MEMORY (DTR0," (by decide) (List.prefix_append _ _)
  case spcDtr1Dtr0 =>
    unfold pairText
    simp only [List.append_assoc]
    exact isNamed_literal "DTR1:DTR0" (by decide) (List.prefix_append _ _)
  case spcDtr2Dtr1 =>
    unfold pairText
    simp only [List.append_assoc]
    exact isNamed_literal "DTR2:DTR1" (by decide) (List.prefix_append _ _)
  case event =>
    unfold eventText
    simp only [List.append_assoc]
    exact isNamed_literal "EVENT 0x" (by decide) (List.prefix_append _ _)
  case eventReserved => exact isNamed_literal "RESERVED EVENT" (by decide) (List.prefix_refl _)
  case powerCycle => exact isNamed_literal "POWER CYCLE EVENT" (by decide) (List.prefix_refl _)

/-! ### The classes are told apart by the text (R242 (c)) -/

theorem placeholder_prefix (b : Byte) (tail : String) : "---".toList <+: placeholder b tail := by
  unfold placeholder
  simp

theorem not_prefix_of_head {t : Text} (h : t.head? ≠ some '-') : ¬ "---".toList <+: t := by
  rintro ⟨rest, rfl⟩
  exact h rfl

theorem placeholder_ne_reserved (b : Byte) (tail : String) : placeholder b tail ≠ "RESERVED".toList := fun h =>
  not_prefix_of_head (by decide) (h ▸ placeholder_prefix b tail)

theorem VisualClass.prefix_iff {k : CmdKind} {t : Text} (h : VisualClass k t) :
    "---".toList <+: t ↔ k.isPlaceholder = true := by
  cases h with
  | placeholder hkind b tail htext => exact iff_of_true (htext ▸ placeholder_prefix b tail) hkind
  | reserved hkind htext =>
    subst hkind htext
    decide
  | named hplaceholder _ htext => exact iff_of_false (not_prefix_of_head htext.head) (by simp [hplaceholder])

theorem VisualClass.eq_reserved_iff {k : CmdKind} {t : Text} (h : VisualClass k t) :
    t = "RESERVED".toList ↔ k = .reserved := by
  cases h with
  | placeholder hkind b tail htext =>
    refine iff_of_false (htext ▸ placeholder_ne_reserved b tail) ?_
    rintro rfl
    cases hkind
  | reserved hkind htext => exact iff_of_true htext.symm hkind
  | named _ hreserved htext => exact iff_of_false htext.reserved hreserved

/-- Settles O51: the class of the command kind shows in the text. -/
theorem placeholdersAreDistinguishable : Obligations.PlaceholdersAreDistinguishable := by
  unfold Obligations.PlaceholdersAreDistinguishable
  intro s t w lbl txt hm _ hstep htext
  obtain ⟨_, _, hcmd, _⟩ := parts_of_stateText htext
  rw [cfg_of_step_presenting hstep] at hcmd
  have hclass := visualClass_of_cmdText hm hcmd
  exact ⟨hclass.prefix_iff, hclass.eq_reserved_iff⟩

end Sys2Proof.Proofs
end

section
/-! PROOF. The two exceptions of a FRAME (R260, R261), each as the one row its words decode to; how long a result lives
(R265, R293), read off the effect of each operation on the bank; and the step that waits for the host. -/

namespace Sys2Proof.Proofs

open Sys2Proof.Machine Sys2Proof.Laws

/-! ### The words and the rows that reject -/

section
variable {w : OpWord} (hsel : opSel w = 1#2)
include hsel

theorem decode_badLen (h8 : (opLen w).toNat ≠ 8) (h16 : (opLen w).toNat ≠ 16) (h24 : (opLen w).toNat ≠ 24) :
    decode w = .fErrLen (opLen w) :=
  (decode_of_frame hsel).trans (decodeFrame_badLen _ (ne_of_apply_ne BitVec.toNat h8)
    (ne_of_apply_ne BitVec.toNat h16) (ne_of_apply_ne BitVec.toNat h24))

theorem decode_range8 (hlen : (opLen w).toNat = 8) (hv : 2 ^ 8 ≤ (opValue w).toNat) :
    decode w = .f8ErrRange (opValue w) := by
  have hlen8 : opLen w = 8#8 := BitVec.eq_of_toNat_eq hlen
  rw [decode_of_frame hsel, hlen8, decodeFrame_8, if_neg ((value_lt_8_iff _).not.mp hv.not_gt)]

theorem decode_range16 (hlen : (opLen w).toNat = 16) (hv : 2 ^ 16 ≤ (opValue w).toNat) :
    decode w = .f16ErrRange (opValue w) := by
  have hlen16 : opLen w = 16#8 := BitVec.eq_of_toNat_eq hlen
  rw [decode_of_frame hsel, hlen16, decodeFrame_16, if_neg ((value_lt_16_iff _).not.mp hv.not_gt)]

end

/-! What the three rows do (R264), each by its arm of `exec`. -/

theorem exec_fErrLen (len : Byte) (s : State) : exec (.fErrLen len) s = .next (afterRejected s .len) := rfl

theorem exec_f8ErrRange (v : Value) (s : State) : exec (.f8ErrRange v) s = .next (afterRejected s .range) := rfl

theorem exec_f16ErrRange (v : Value) (s : State) : exec (.f16ErrRange v) s = .next (afterRejected s .range) := rfl

/-- Settles O7: the words of unsupported length are those of `F.ERR_LEN`, whose meaning is the rejection. -/
theorem badLengthIsRejected : Obligations.BadLengthIsRejected := by
  unfold Obligations.BadLengthIsRejected
  refine ⟨fun len s _ => exec_fErrLen len s, fun s w rest hinput hsel h8 h16 h24 => ?_⟩
  rw [step_operation s w rest hinput, decode_badLen hsel h8 h16 h24, exec_fErrLen]

/-- Settles O8: an 8-bit or 16-bit word out of range is one of that length's range row; 24 bits hold every value. -/
theorem valueOutOfRangeIsRejected : Obligations.ValueOutOfRangeIsRejected := by
  unfold Obligations.ValueOutOfRangeIsRejected
  refine ⟨fun v s => ⟨fun _ => exec_f8ErrRange v s, fun _ => exec_f16ErrRange v s⟩, ?words, fun w hlen => ?width24⟩
  case words =>
    intro s w rest hinput hsel hout
    rw [step_operation s w rest hinput]
    obtain ⟨hlen, hv⟩ | ⟨hlen, hv⟩ := hout
    · rw [decode_range8 hsel hlen hv, exec_f8ErrRange]
    · rw [decode_range16 hsel hlen hv, exec_f16ErrRange]
  case width24 =>
    rw [hlen]
    exact (opValue w).isLt

/-! ### The lifetime of a result -/

/-- NOP and LOAD_CTX keep all of the bank but the strobe (R91, R94). -/
theorem Effect.keeps_result {s t : State} {p : HostInput} (h : Effect s p t) (hrst : p.rst = false)
    (hsel : opSel p.opw = 0#2 ∨ opSel p.opw = 2#2) :
    t.res.err = s.res.err ∧ t.res.valid = s.res.valid ∧ t.res.dc = s.res.dc := by
  cases h with
  | reset hreset => simp [hreset] at hrst
  | nop => exact ⟨rfl, rfl, rfl⟩
  | frame _ hframe => simp [hframe] at hsel
  | loadCtx => exact ⟨rfl, rfl, rfl⟩
  | sreset _ hsreset => simp [hsreset] at hsel

/-- An answer to a FRAME overwrites the whole bank. -/
theorem FrameAnswer.apply_with_res (s : State) (r : Res) (a : FrameAnswer) :
    a.apply { s with res := r } = a.apply s := by
  cases a <;> rfl

/-- A FRAME, SRESET and reset answer independently of the bank before them (R36, R293). -/
theorem step_with_res {s : State} {p : HostInput} {rest : List HostInput} (hinput : s.input = p :: rest)
    (hp : p.rst = true ∨ opSel p.opw = 1#2 ∨ opSel p.opw = 3#2) (r : Res) :
    step { s with res := r } = step s := by
  obtain ⟨rst, w⟩ := p
  cases rst with
  | true => exact (step_reset { s with res := r } w rest hinput).trans (step_reset s w rest hinput).symm
  | false =>
    obtain hfalse | hframe | hsreset := hp
    · cases hfalse
    · obtain ⟨a, -, hanswer⟩ := step_frame hframe s.cfg.img
      rw [hanswer s rest hinput rfl, hanswer { s with res := r } rest hinput rfl]
      exact congrArg _ (a.apply_with_res { s with input := rest } r)
    · rw [step_operation s w rest hinput, step_operation { s with res := r } w rest hinput, decode_of_sreset hsreset]
      rfl

/-- Settles O41. -/
theorem resultLifetime : Obligations.ResultLifetime := by
  unfold Obligations.ResultLifetime
  intro s p rest r hinput
  obtain ⟨t, hstep, heffect⟩ := step_effect hinput
  exact ⟨t, hstep, heffect.keeps_result, fun hp => (step_with_res hinput hp r).trans hstep⟩

/-! ### Waiting -/

/-- Settles O48. -/
theorem blockWaitsForTheHost : Obligations.BlockWaitsForTheHost := by
  unfold Obligations.BlockWaitsForTheHost
  exact step_waiting

end Sys2Proof.Proofs
end
